-- ==== Sys2Proof/Word.lean ====
section
/-! DEFINITION. The machine's two word types (00_scope.md R6, R8): bytes and addresses. -/

namespace Sys2Proof

/-- A `u8`: a register A, X, Y, SP, P or a memory byte (00_scope.md R6 `DATA_WIDTH`). -/
abbrev Byte := BitVec 8

/-- A `u16`: PC or an address (00_scope.md R6 `ADDR_WIDTH`). -/
abbrev Addr := BitVec 16

end Sys2Proof
end

