-- ==== Sys2Proof/Syntax.lean ====
section
/-! DEFINITION. The syntax: mnemonics, addressing modes with their operand bytes, and Instr, one constructor for each of the
149 rows of spec/opcode_table.json (30_encoding.md R84, R85). `Instr.mnemonic` and `Instr.mode` read a row's two names. -/

namespace Sys2Proof

/-- The instruction profiles of 00_scope.md R2: what the source specifies, and that plus the documented NMOS rest. -/
inductive InstructionSet where
  | doc
  | full
  deriving DecidableEq, Repr

/-- The 54 mnemonics of 30_encoding.md R85, in the order of its table. -/
inductive Mnemonic where
  | lda | ldx | ldy | sta | stx | sty
  | tax | tay | txa | tya | tsx | txs | pha | php | pla | plp
  | and | eor | ora | bit
  | jmp | jsr | rts
  | adc | sbc | cmp | cpx | cpy
  | inc | dec | inx | iny | dex | dey | asl | lsr | rol | ror
  | bpl | bmi | bvc | bvs | bcc | bcs | bne | beq | clc | sec | cli | sei | clv | cld | sed | nop
  deriving DecidableEq, Repr

/-- The addressing modes that have an effective address, with the operand bytes they are encoded with (30_encoding.md R66,
R68 to R74, R76, R77). -/
inductive MemMode where
  | zeroPage (b : Byte)
  | zeroPageX (b : Byte)
  | zeroPageY (b : Byte)
  | absolute (w : Addr)
  | absoluteX (w : Addr)
  | absoluteY (w : Addr)
  | indirect (w : Addr)
  | indirectX (b : Byte)
  | indirectY (b : Byte)
  deriving DecidableEq, Repr

/-- What a read-class instruction reads its operand from: the immediate byte or memory (30_encoding.md R78). -/
inductive Source where
  | immediate (b : Byte)
  | memory (m : MemMode)
  deriving DecidableEq, Repr

/-- An addressing mode with its operand bytes: the thirteen columns of 30_encoding.md R85. -/
inductive AddrMode where
  | implied
  | accumulator
  | source (src : Source)
  | relative (d : Byte)
  deriving DecidableEq, Repr

/-- The name of an addressing mode, without operand bytes: a column of 30_encoding.md R85. -/
inductive ModeName where
  | implied | accumulator | immediate | zeroPage | zeroPageX | zeroPageY | absolute | absoluteX | absoluteY
  | indirect | indirectX | indirectY | relative
  deriving DecidableEq, Repr

/-- The column of a memory mode. -/
def MemMode.name : MemMode → ModeName
  | .zeroPage _ => .zeroPage
  | .zeroPageX _ => .zeroPageX
  | .zeroPageY _ => .zeroPageY
  | .absolute _ => .absolute
  | .absoluteX _ => .absoluteX
  | .absoluteY _ => .absoluteY
  | .indirect _ => .indirect
  | .indirectX _ => .indirectX
  | .indirectY _ => .indirectY

/-- The column of a mode. -/
def AddrMode.name : AddrMode → ModeName
  | .implied => .implied
  | .accumulator => .accumulator
  | .source (.immediate _) => .immediate
  | .source (.memory m) => m.name
  | .relative _ => .relative

/-- The instructions: one constructor for each row of spec/opcode_table.json. `b` is an immediate or zero-page byte, `d` a
branch displacement byte, `w` a 16-bit operand (30_encoding.md R62, R64). -/
inductive Instr where
  -- Load and store (40_load_store.md)
  | ldaImm (b : Byte) | ldaZp (b : Byte) | ldaZpX (b : Byte) | ldaAbs (w : Addr) | ldaAbsX (w : Addr) | ldaAbsY (w : Addr) | ldaIndX (b : Byte) | ldaIndY (b : Byte)
  | ldxImm (b : Byte) | ldxZp (b : Byte) | ldxZpY (b : Byte) | ldxAbs (w : Addr) | ldxAbsY (w : Addr)
  | ldyImm (b : Byte) | ldyZp (b : Byte) | ldyZpX (b : Byte) | ldyAbs (w : Addr) | ldyAbsX (w : Addr)
  | staZp (b : Byte) | staZpX (b : Byte) | staAbs (w : Addr) | staAbsX (w : Addr) | staAbsY (w : Addr) | staIndX (b : Byte) | staIndY (b : Byte)
  | stxZp (b : Byte) | stxZpY (b : Byte) | stxAbs (w : Addr)
  | styZp (b : Byte) | styZpX (b : Byte) | styAbs (w : Addr)
  -- Transfer and stack (41_transfer_stack.md)
  | tax
  | tay
  | txa
  | tya
  | tsx
  | txs
  | pha
  | php
  | pla
  | plp
  -- Logical and bit test (42_logical_bit.md)
  | andImm (b : Byte) | andZp (b : Byte) | andZpX (b : Byte) | andAbs (w : Addr) | andAbsX (w : Addr) | andAbsY (w : Addr) | andIndX (b : Byte) | andIndY (b : Byte)
  | eorImm (b : Byte) | eorZp (b : Byte) | eorZpX (b : Byte) | eorAbs (w : Addr) | eorAbsX (w : Addr) | eorAbsY (w : Addr) | eorIndX (b : Byte) | eorIndY (b : Byte)
  | oraImm (b : Byte) | oraZp (b : Byte) | oraZpX (b : Byte) | oraAbs (w : Addr) | oraAbsX (w : Addr) | oraAbsY (w : Addr) | oraIndX (b : Byte) | oraIndY (b : Byte)
  | bitZp (b : Byte) | bitAbs (w : Addr)
  -- Control (43_control.md)
  | jmpAbs (w : Addr) | jmpInd (w : Addr)
  | jsr (w : Addr)
  | rts
  -- Arithmetic and compare (44_arith_compare.md)
  | adcImm (b : Byte) | adcZp (b : Byte) | adcZpX (b : Byte) | adcAbs (w : Addr) | adcAbsX (w : Addr) | adcAbsY (w : Addr) | adcIndX (b : Byte) | adcIndY (b : Byte)
  | sbcImm (b : Byte) | sbcZp (b : Byte) | sbcZpX (b : Byte) | sbcAbs (w : Addr) | sbcAbsX (w : Addr) | sbcAbsY (w : Addr) | sbcIndX (b : Byte) | sbcIndY (b : Byte)
  | cmpImm (b : Byte) | cmpZp (b : Byte) | cmpZpX (b : Byte) | cmpAbs (w : Addr) | cmpAbsX (w : Addr) | cmpAbsY (w : Addr) | cmpIndX (b : Byte) | cmpIndY (b : Byte)
  | cpxImm (b : Byte) | cpxZp (b : Byte) | cpxAbs (w : Addr)
  | cpyImm (b : Byte) | cpyZp (b : Byte) | cpyAbs (w : Addr)
  -- Increment, decrement, shift, rotate (45_incdec_shift.md)
  | incZp (b : Byte) | incZpX (b : Byte) | incAbs (w : Addr) | incAbsX (w : Addr)
  | decZp (b : Byte) | decZpX (b : Byte) | decAbs (w : Addr) | decAbsX (w : Addr)
  | inx
  | iny
  | dex
  | dey
  | aslAcc | aslZp (b : Byte) | aslZpX (b : Byte) | aslAbs (w : Addr) | aslAbsX (w : Addr)
  | lsrAcc | lsrZp (b : Byte) | lsrZpX (b : Byte) | lsrAbs (w : Addr) | lsrAbsX (w : Addr)
  | rolAcc | rolZp (b : Byte) | rolZpX (b : Byte) | rolAbs (w : Addr) | rolAbsX (w : Addr)
  | rorAcc | rorZp (b : Byte) | rorZpX (b : Byte) | rorAbs (w : Addr) | rorAbsX (w : Addr)
  -- Branches, flags, NOP (46_branch_flag.md)
  | bpl (d : Byte)
  | bmi (d : Byte)
  | bvc (d : Byte)
  | bvs (d : Byte)
  | bcc (d : Byte)
  | bcs (d : Byte)
  | bne (d : Byte)
  | beq (d : Byte)
  | clc
  | sec
  | cli
  | sei
  | clv
  | cld
  | sed
  | nop
  deriving DecidableEq, Repr

/-- The row's mnemonic (30_encoding.md R85). -/
def Instr.mnemonic : Instr → Mnemonic
  | .ldaImm _ | .ldaZp _ | .ldaZpX _ | .ldaAbs _ | .ldaAbsX _ | .ldaAbsY _ | .ldaIndX _ | .ldaIndY _ => .lda
  | .ldxImm _ | .ldxZp _ | .ldxZpY _ | .ldxAbs _ | .ldxAbsY _ => .ldx
  | .ldyImm _ | .ldyZp _ | .ldyZpX _ | .ldyAbs _ | .ldyAbsX _ => .ldy
  | .staZp _ | .staZpX _ | .staAbs _ | .staAbsX _ | .staAbsY _ | .staIndX _ | .staIndY _ => .sta
  | .stxZp _ | .stxZpY _ | .stxAbs _ => .stx
  | .styZp _ | .styZpX _ | .styAbs _ => .sty
  | .tax => .tax
  | .tay => .tay
  | .txa => .txa
  | .tya => .tya
  | .tsx => .tsx
  | .txs => .txs
  | .pha => .pha
  | .php => .php
  | .pla => .pla
  | .plp => .plp
  | .andImm _ | .andZp _ | .andZpX _ | .andAbs _ | .andAbsX _ | .andAbsY _ | .andIndX _ | .andIndY _ => .and
  | .eorImm _ | .eorZp _ | .eorZpX _ | .eorAbs _ | .eorAbsX _ | .eorAbsY _ | .eorIndX _ | .eorIndY _ => .eor
  | .oraImm _ | .oraZp _ | .oraZpX _ | .oraAbs _ | .oraAbsX _ | .oraAbsY _ | .oraIndX _ | .oraIndY _ => .ora
  | .bitZp _ | .bitAbs _ => .bit
  | .jmpAbs _ | .jmpInd _ => .jmp
  | .jsr _ => .jsr
  | .rts => .rts
  | .adcImm _ | .adcZp _ | .adcZpX _ | .adcAbs _ | .adcAbsX _ | .adcAbsY _ | .adcIndX _ | .adcIndY _ => .adc
  | .sbcImm _ | .sbcZp _ | .sbcZpX _ | .sbcAbs _ | .sbcAbsX _ | .sbcAbsY _ | .sbcIndX _ | .sbcIndY _ => .sbc
  | .cmpImm _ | .cmpZp _ | .cmpZpX _ | .cmpAbs _ | .cmpAbsX _ | .cmpAbsY _ | .cmpIndX _ | .cmpIndY _ => .cmp
  | .cpxImm _ | .cpxZp _ | .cpxAbs _ => .cpx
  | .cpyImm _ | .cpyZp _ | .cpyAbs _ => .cpy
  | .incZp _ | .incZpX _ | .incAbs _ | .incAbsX _ => .inc
  | .decZp _ | .decZpX _ | .decAbs _ | .decAbsX _ => .dec
  | .inx => .inx
  | .iny => .iny
  | .dex => .dex
  | .dey => .dey
  | .aslAcc | .aslZp _ | .aslZpX _ | .aslAbs _ | .aslAbsX _ => .asl
  | .lsrAcc | .lsrZp _ | .lsrZpX _ | .lsrAbs _ | .lsrAbsX _ => .lsr
  | .rolAcc | .rolZp _ | .rolZpX _ | .rolAbs _ | .rolAbsX _ => .rol
  | .rorAcc | .rorZp _ | .rorZpX _ | .rorAbs _ | .rorAbsX _ => .ror
  | .bpl _ => .bpl
  | .bmi _ => .bmi
  | .bvc _ => .bvc
  | .bvs _ => .bvs
  | .bcc _ => .bcc
  | .bcs _ => .bcs
  | .bne _ => .bne
  | .beq _ => .beq
  | .clc => .clc
  | .sec => .sec
  | .cli => .cli
  | .sei => .sei
  | .clv => .clv
  | .cld => .cld
  | .sed => .sed
  | .nop => .nop

/-- The row's addressing mode, with the instruction's operand bytes (30_encoding.md R85). -/
def Instr.mode : Instr → AddrMode
  | .ldaImm b => .source (.immediate b)
  | .ldaZp b => .source (.memory (.zeroPage b))
  | .ldaZpX b => .source (.memory (.zeroPageX b))
  | .ldaAbs w => .source (.memory (.absolute w))
  | .ldaAbsX w => .source (.memory (.absoluteX w))
  | .ldaAbsY w => .source (.memory (.absoluteY w))
  | .ldaIndX b => .source (.memory (.indirectX b))
  | .ldaIndY b => .source (.memory (.indirectY b))
  | .ldxImm b => .source (.immediate b)
  | .ldxZp b => .source (.memory (.zeroPage b))
  | .ldxZpY b => .source (.memory (.zeroPageY b))
  | .ldxAbs w => .source (.memory (.absolute w))
  | .ldxAbsY w => .source (.memory (.absoluteY w))
  | .ldyImm b => .source (.immediate b)
  | .ldyZp b => .source (.memory (.zeroPage b))
  | .ldyZpX b => .source (.memory (.zeroPageX b))
  | .ldyAbs w => .source (.memory (.absolute w))
  | .ldyAbsX w => .source (.memory (.absoluteX w))
  | .staZp b => .source (.memory (.zeroPage b))
  | .staZpX b => .source (.memory (.zeroPageX b))
  | .staAbs w => .source (.memory (.absolute w))
  | .staAbsX w => .source (.memory (.absoluteX w))
  | .staAbsY w => .source (.memory (.absoluteY w))
  | .staIndX b => .source (.memory (.indirectX b))
  | .staIndY b => .source (.memory (.indirectY b))
  | .stxZp b => .source (.memory (.zeroPage b))
  | .stxZpY b => .source (.memory (.zeroPageY b))
  | .stxAbs w => .source (.memory (.absolute w))
  | .styZp b => .source (.memory (.zeroPage b))
  | .styZpX b => .source (.memory (.zeroPageX b))
  | .styAbs w => .source (.memory (.absolute w))
  | .tax => .implied
  | .tay => .implied
  | .txa => .implied
  | .tya => .implied
  | .tsx => .implied
  | .txs => .implied
  | .pha => .implied
  | .php => .implied
  | .pla => .implied
  | .plp => .implied
  | .andImm b => .source (.immediate b)
  | .andZp b => .source (.memory (.zeroPage b))
  | .andZpX b => .source (.memory (.zeroPageX b))
  | .andAbs w => .source (.memory (.absolute w))
  | .andAbsX w => .source (.memory (.absoluteX w))
  | .andAbsY w => .source (.memory (.absoluteY w))
  | .andIndX b => .source (.memory (.indirectX b))
  | .andIndY b => .source (.memory (.indirectY b))
  | .eorImm b => .source (.immediate b)
  | .eorZp b => .source (.memory (.zeroPage b))
  | .eorZpX b => .source (.memory (.zeroPageX b))
  | .eorAbs w => .source (.memory (.absolute w))
  | .eorAbsX w => .source (.memory (.absoluteX w))
  | .eorAbsY w => .source (.memory (.absoluteY w))
  | .eorIndX b => .source (.memory (.indirectX b))
  | .eorIndY b => .source (.memory (.indirectY b))
  | .oraImm b => .source (.immediate b)
  | .oraZp b => .source (.memory (.zeroPage b))
  | .oraZpX b => .source (.memory (.zeroPageX b))
  | .oraAbs w => .source (.memory (.absolute w))
  | .oraAbsX w => .source (.memory (.absoluteX w))
  | .oraAbsY w => .source (.memory (.absoluteY w))
  | .oraIndX b => .source (.memory (.indirectX b))
  | .oraIndY b => .source (.memory (.indirectY b))
  | .bitZp b => .source (.memory (.zeroPage b))
  | .bitAbs w => .source (.memory (.absolute w))
  | .jmpAbs w => .source (.memory (.absolute w))
  | .jmpInd w => .source (.memory (.indirect w))
  | .jsr w => .source (.memory (.absolute w))
  | .rts => .implied
  | .adcImm b => .source (.immediate b)
  | .adcZp b => .source (.memory (.zeroPage b))
  | .adcZpX b => .source (.memory (.zeroPageX b))
  | .adcAbs w => .source (.memory (.absolute w))
  | .adcAbsX w => .source (.memory (.absoluteX w))
  | .adcAbsY w => .source (.memory (.absoluteY w))
  | .adcIndX b => .source (.memory (.indirectX b))
  | .adcIndY b => .source (.memory (.indirectY b))
  | .sbcImm b => .source (.immediate b)
  | .sbcZp b => .source (.memory (.zeroPage b))
  | .sbcZpX b => .source (.memory (.zeroPageX b))
  | .sbcAbs w => .source (.memory (.absolute w))
  | .sbcAbsX w => .source (.memory (.absoluteX w))
  | .sbcAbsY w => .source (.memory (.absoluteY w))
  | .sbcIndX b => .source (.memory (.indirectX b))
  | .sbcIndY b => .source (.memory (.indirectY b))
  | .cmpImm b => .source (.immediate b)
  | .cmpZp b => .source (.memory (.zeroPage b))
  | .cmpZpX b => .source (.memory (.zeroPageX b))
  | .cmpAbs w => .source (.memory (.absolute w))
  | .cmpAbsX w => .source (.memory (.absoluteX w))
  | .cmpAbsY w => .source (.memory (.absoluteY w))
  | .cmpIndX b => .source (.memory (.indirectX b))
  | .cmpIndY b => .source (.memory (.indirectY b))
  | .cpxImm b => .source (.immediate b)
  | .cpxZp b => .source (.memory (.zeroPage b))
  | .cpxAbs w => .source (.memory (.absolute w))
  | .cpyImm b => .source (.immediate b)
  | .cpyZp b => .source (.memory (.zeroPage b))
  | .cpyAbs w => .source (.memory (.absolute w))
  | .incZp b => .source (.memory (.zeroPage b))
  | .incZpX b => .source (.memory (.zeroPageX b))
  | .incAbs w => .source (.memory (.absolute w))
  | .incAbsX w => .source (.memory (.absoluteX w))
  | .decZp b => .source (.memory (.zeroPage b))
  | .decZpX b => .source (.memory (.zeroPageX b))
  | .decAbs w => .source (.memory (.absolute w))
  | .decAbsX w => .source (.memory (.absoluteX w))
  | .inx => .implied
  | .iny => .implied
  | .dex => .implied
  | .dey => .implied
  | .aslAcc => .accumulator
  | .aslZp b => .source (.memory (.zeroPage b))
  | .aslZpX b => .source (.memory (.zeroPageX b))
  | .aslAbs w => .source (.memory (.absolute w))
  | .aslAbsX w => .source (.memory (.absoluteX w))
  | .lsrAcc => .accumulator
  | .lsrZp b => .source (.memory (.zeroPage b))
  | .lsrZpX b => .source (.memory (.zeroPageX b))
  | .lsrAbs w => .source (.memory (.absolute w))
  | .lsrAbsX w => .source (.memory (.absoluteX w))
  | .rolAcc => .accumulator
  | .rolZp b => .source (.memory (.zeroPage b))
  | .rolZpX b => .source (.memory (.zeroPageX b))
  | .rolAbs w => .source (.memory (.absolute w))
  | .rolAbsX w => .source (.memory (.absoluteX w))
  | .rorAcc => .accumulator
  | .rorZp b => .source (.memory (.zeroPage b))
  | .rorZpX b => .source (.memory (.zeroPageX b))
  | .rorAbs w => .source (.memory (.absolute w))
  | .rorAbsX w => .source (.memory (.absoluteX w))
  | .bpl d => .relative d
  | .bmi d => .relative d
  | .bvc d => .relative d
  | .bvs d => .relative d
  | .bcc d => .relative d
  | .bcs d => .relative d
  | .bne d => .relative d
  | .beq d => .relative d
  | .clc => .implied
  | .sec => .implied
  | .cli => .implied
  | .sei => .implied
  | .clv => .implied
  | .cld => .implied
  | .sed => .implied
  | .nop => .implied

end Sys2Proof
end

