-- ==== Sys2Proof/Config.lean ====
section
/-! DEFINITION. The implementation parameters of 00_scope.md R6, as one plain record, and their defaults. ADDR_WIDTH and
DATA_WIDTH are the types of Word.lean; MEM_SIZE and STACK_BASE are fixed by R6. -/

namespace Sys2Proof

/-- What a decode failure does (60_exceptions.md R170, R171). -/
inductive UnknownOpcodePolicy where
  | logAndContinue
  | halt
  deriving DecidableEq, Repr

/-- What ADC and SBC do when flag D is 1 (60_exceptions.md R172). -/
inductive DecimalMode where
  | refuse
  | binary
  deriving DecidableEq, Repr

/-- The penalty classes of 70_reset_and_hazards.md R204; `fixed` is the class R204 names `none`. -/
inductive PenaltyClass where
  | fixed
  | page
  | branch
  deriving DecidableEq, Repr

/-- One row of a `CYCLE_TABLE`: an opcode's base cost and penalty class (70_reset_and_hazards.md R205). -/
structure CycleRow where
  opcode : Byte
  base : Nat
  penalty : PenaltyClass
  deriving DecidableEq, Repr

/-- The parameters of 00_scope.md R6. `cycleOverrides` gives `CYCLE_TABLE` as the rows that differ from the default table
of R205 (DESIGN CHOICE, log entry 5: safe; any table can be given so). -/
structure Config where
  resetVector : Addr
  instructionSet : InstructionSet
  unknownOpcode : UnknownOpcodePolicy
  decimalMode : DecimalMode
  zpPtrWrap : Bool
  jmpIndPageWrap : Bool
  cycleOverrides : List CycleRow
  deriving DecidableEq, Repr

/-- Every parameter at the default of 00_scope.md R6. -/
def Config.default : Config where
  resetVector := 0xFFFC
  instructionSet := .full
  unknownOpcode := .logAndContinue
  decimalMode := .refuse
  zpPtrWrap := true
  jmpIndPageWrap := true
  cycleOverrides := []

/-- `MEM_SIZE`, the number of addressable bytes (00_scope.md R6). -/
def memSize : Nat := 65536

end Sys2Proof
end

