-- ==== Sys2Proof/WellFormed.lean ====
section
/-! DEFINITION. Well-formedness of an instruction: its profile is admitted by the instruction set (00_scope.md R2,
30_encoding.md R81). Every operand byte is legal (30_encoding.md R64, R89), so there is no other check. -/

namespace Sys2Proof

/-- The profile of a mnemonic (00_scope.md R2). -/
def Mnemonic.profile : Mnemonic → InstructionSet
  | .lda | .ldx | .ldy | .sta | .stx | .sty => .doc
  | .tax | .tay | .txa | .tya | .tsx | .txs | .pha | .php | .pla | .plp => .doc
  | .and | .eor | .ora | .bit => .doc
  | .jmp | .jsr | .rts => .doc
  | .adc | .sbc | .cmp | .cpx | .cpy => .full
  | .inc | .dec | .inx | .iny | .dex | .dey | .asl | .lsr | .rol | .ror => .full
  | .bpl | .bmi | .bvc | .bvs | .bcc | .bcs | .bne | .beq => .full
  | .clc | .sec | .cli | .sei | .clv | .cld | .sed | .nop => .full

/-- Whether an instruction set admits a row of the given profile: DOC rows always, FULL rows only in FULL
(30_encoding.md R81). -/
def InstructionSet.admits (set profile : InstructionSet) : Bool :=
  match set, profile with
  | _, .doc => true
  | .full, .full => true
  | .doc, .full => false

/-- An instruction is well-formed in an instruction set that admits its mnemonic's profile. -/
def Instr.wf (set : InstructionSet) (i : Instr) : Bool := set.admits i.mnemonic.profile

end Sys2Proof
end

