-- ==== Sys2Proof/Decode.lean ====
section
/-! DEFINITION. The byte helpers, the dispatch decoder and the encoder (30_encoding.md R61 to R65, R81 to R89). The decoder
reads the opcode byte as one index into a 256-entry table laid out as R84 prints it; the encoder is written from R85. -/

namespace Sys2Proof

/-- `{h, l}`: the 16-bit value `h * 256 + l` (00_scope.md R8). -/
def joinBytes (h l : Byte) : Addr := h ++ l

/-- `lo(w)`, bits 7 to 0 (00_scope.md R8). -/
def loByte (w : Addr) : Byte := w.setWidth 8

/-- `hi(w)`, bits 15 to 8 (00_scope.md R8). -/
def hiByte (w : Addr) : Byte := w.extractLsb' 8 8

/-- `zext_16(b)` (00_scope.md R8). -/
def zeroExtend16 (b : Byte) : Addr := b.setWidth 16

/-- `sext_16(b)` (00_scope.md R8). -/
def signExtend16 (b : Byte) : Addr := b.signExtend 16

/-- The three instruction formats (30_encoding.md R62), each with the instructions it makes from its operand bytes. -/
inductive Format where
  | f1 (i : Instr)
  | f2 (build : Byte → Instr)
  | f3 (build : Addr → Instr)

/-- A table entry with a handler: the profile that brings it in (`full` where R84 prints `*`) and its format. -/
structure Entry where
  profile : InstructionSet
  format : Format

/-- One of the 256 places of the opcode map: a handler, or none where R84 prints `-`. -/
abbrev Slot := Option Entry

namespace Slot

/-- A byte with no handler (R87). -/
def no : Slot := none
/-- A DOC handler of format F1. -/
def d1 (i : Instr) : Slot := some ⟨.doc, .f1 i⟩
/-- A DOC handler of format F2. -/
def d2 (build : Byte → Instr) : Slot := some ⟨.doc, .f2 build⟩
/-- A DOC handler of format F3. -/
def d3 (build : Addr → Instr) : Slot := some ⟨.doc, .f3 build⟩
/-- A FULL handler of format F1. -/
def x1 (i : Instr) : Slot := some ⟨.full, .f1 i⟩
/-- A FULL handler of format F2. -/
def x2 (build : Byte → Instr) : Slot := some ⟨.full, .f2 build⟩
/-- A FULL handler of format F3. -/
def x3 (build : Addr → Instr) : Slot := some ⟨.full, .f3 build⟩

end Slot

open Slot

/-- Opcodes 0x00 to 0x0F (30_encoding.md R84). -/
def opcodes0 : List Slot :=
  [no, d2 .oraIndX, no, no, no, d2 .oraZp, x2 .aslZp, no,
   d1 .php, d2 .oraImm, x1 .aslAcc, no, no, d3 .oraAbs, x3 .aslAbs, no]

/-- Opcodes 0x10 to 0x1F (30_encoding.md R84). -/
def opcodes1 : List Slot :=
  [x2 .bpl, d2 .oraIndY, no, no, no, d2 .oraZpX, x2 .aslZpX, no,
   x1 .clc, d3 .oraAbsY, no, no, no, d3 .oraAbsX, x3 .aslAbsX, no]

/-- Opcodes 0x20 to 0x2F (30_encoding.md R84). -/
def opcodes2 : List Slot :=
  [d3 .jsr, d2 .andIndX, no, no, d2 .bitZp, d2 .andZp, x2 .rolZp, no,
   d1 .plp, d2 .andImm, x1 .rolAcc, no, d3 .bitAbs, d3 .andAbs, x3 .rolAbs, no]

/-- Opcodes 0x30 to 0x3F (30_encoding.md R84). -/
def opcodes3 : List Slot :=
  [x2 .bmi, d2 .andIndY, no, no, no, d2 .andZpX, x2 .rolZpX, no,
   x1 .sec, d3 .andAbsY, no, no, no, d3 .andAbsX, x3 .rolAbsX, no]

/-- Opcodes 0x40 to 0x4F (30_encoding.md R84). -/
def opcodes4 : List Slot :=
  [no, d2 .eorIndX, no, no, no, d2 .eorZp, x2 .lsrZp, no,
   d1 .pha, d2 .eorImm, x1 .lsrAcc, no, d3 .jmpAbs, d3 .eorAbs, x3 .lsrAbs, no]

/-- Opcodes 0x50 to 0x5F (30_encoding.md R84). -/
def opcodes5 : List Slot :=
  [x2 .bvc, d2 .eorIndY, no, no, no, d2 .eorZpX, x2 .lsrZpX, no,
   x1 .cli, d3 .eorAbsY, no, no, no, d3 .eorAbsX, x3 .lsrAbsX, no]

/-- Opcodes 0x60 to 0x6F (30_encoding.md R84). -/
def opcodes6 : List Slot :=
  [d1 .rts, x2 .adcIndX, no, no, no, x2 .adcZp, x2 .rorZp, no,
   d1 .pla, x2 .adcImm, x1 .rorAcc, no, d3 .jmpInd, x3 .adcAbs, x3 .rorAbs, no]

/-- Opcodes 0x70 to 0x7F (30_encoding.md R84). -/
def opcodes7 : List Slot :=
  [x2 .bvs, x2 .adcIndY, no, no, no, x2 .adcZpX, x2 .rorZpX, no,
   x1 .sei, x3 .adcAbsY, no, no, no, x3 .adcAbsX, x3 .rorAbsX, no]

/-- Opcodes 0x80 to 0x8F (30_encoding.md R84). -/
def opcodes8 : List Slot :=
  [no, d2 .staIndX, no, no, d2 .styZp, d2 .staZp, d2 .stxZp, no,
   x1 .dey, no, d1 .txa, no, d3 .styAbs, d3 .staAbs, d3 .stxAbs, no]

/-- Opcodes 0x90 to 0x9F (30_encoding.md R84). -/
def opcodes9 : List Slot :=
  [x2 .bcc, d2 .staIndY, no, no, d2 .styZpX, d2 .staZpX, d2 .stxZpY, no,
   d1 .tya, d3 .staAbsY, d1 .txs, no, no, d3 .staAbsX, no, no]

/-- Opcodes 0xA0 to 0xAF (30_encoding.md R84). -/
def opcodesA : List Slot :=
  [d2 .ldyImm, d2 .ldaIndX, d2 .ldxImm, no, d2 .ldyZp, d2 .ldaZp, d2 .ldxZp, no,
   d1 .tay, d2 .ldaImm, d1 .tax, no, d3 .ldyAbs, d3 .ldaAbs, d3 .ldxAbs, no]

/-- Opcodes 0xB0 to 0xBF (30_encoding.md R84). -/
def opcodesB : List Slot :=
  [x2 .bcs, d2 .ldaIndY, no, no, d2 .ldyZpX, d2 .ldaZpX, d2 .ldxZpY, no,
   x1 .clv, d3 .ldaAbsY, d1 .tsx, no, d3 .ldyAbsX, d3 .ldaAbsX, d3 .ldxAbsY, no]

/-- Opcodes 0xC0 to 0xCF (30_encoding.md R84). -/
def opcodesC : List Slot :=
  [x2 .cpyImm, x2 .cmpIndX, no, no, x2 .cpyZp, x2 .cmpZp, x2 .decZp, no,
   x1 .iny, x2 .cmpImm, x1 .dex, no, x3 .cpyAbs, x3 .cmpAbs, x3 .decAbs, no]

/-- Opcodes 0xD0 to 0xDF (30_encoding.md R84). -/
def opcodesD : List Slot :=
  [x2 .bne, x2 .cmpIndY, no, no, no, x2 .cmpZpX, x2 .decZpX, no,
   x1 .cld, x3 .cmpAbsY, no, no, no, x3 .cmpAbsX, x3 .decAbsX, no]

/-- Opcodes 0xE0 to 0xEF (30_encoding.md R84). -/
def opcodesE : List Slot :=
  [x2 .cpxImm, x2 .sbcIndX, no, no, x2 .cpxZp, x2 .sbcZp, x2 .incZp, no,
   x1 .inx, x2 .sbcImm, x1 .nop, no, x3 .cpxAbs, x3 .sbcAbs, x3 .incAbs, no]

/-- Opcodes 0xF0 to 0xFF (30_encoding.md R84). -/
def opcodesF : List Slot :=
  [x2 .beq, x2 .sbcIndY, no, no, no, x2 .sbcZpX, x2 .incZpX, no,
   x1 .sed, x3 .sbcAbsY, no, no, no, x3 .sbcAbsX, x3 .incAbsX, no]

/-- The opcode map (30_encoding.md R84): one row for each high nibble, one entry for each low nibble. -/
def opcodeMap : List (List Slot) :=
  [opcodes0, opcodes1, opcodes2, opcodes3, opcodes4, opcodes5, opcodes6, opcodes7,
   opcodes8, opcodes9, opcodesA, opcodesB, opcodesC, opcodesD, opcodesE, opcodesF]

/-- The map's entry for an opcode byte, whatever the profile. -/
def opcodeEntry (op : Byte) : Slot :=
  ((opcodeMap.getD (op.toNat / 16) []).getD (op.toNat % 16) none)

/-- `Dispatch[op]` (30_encoding.md R81): the handler's format, or none where the byte has no handler in the profile. -/
def dispatch (set : InstructionSet) (op : Byte) : Option Format :=
  match opcodeEntry op with
  | none => none
  | some e => if set.admits e.profile then some e.format else none

/-- Why bytes are not an instruction. -/
inductive DecodeError where
  /-- The opcode byte has no handler (30_encoding.md R87; 60_exceptions.md R170). -/
  | noHandler (op : Byte)
  /-- The list ends inside the instruction; memory never ends, so a step never meets this. -/
  | truncated
  deriving DecidableEq, Repr

/-- Decode one instruction at the head of a byte list, giving it and the bytes after it (30_encoding.md R62 to R64, R89). -/
def decode (set : InstructionSet) : List Byte → Except DecodeError (Instr × List Byte)
  | [] => .error .truncated
  | op :: rest =>
    match dispatch set op with
    | none => .error (.noHandler op)
    | some (.f1 i) => .ok (i, rest)
    | some (.f2 build) =>
      match rest with
      | b :: rest => .ok (build b, rest)
      | [] => .error .truncated
    | some (.f3 build) =>
      match rest with
      | l :: h :: rest => .ok (build (joinBytes h l), rest)
      | _ => .error .truncated

/-- The bytes of a table word: byte k of the instruction is bits 8k+7 to 8k, and bits from `nbits` up are 0. -/
def tableWordBytes (nbits w : Nat) : List Byte :=
  let w := w % 2 ^ nbits
  [BitVec.ofNat 8 w, BitVec.ofNat 8 (w / 256), BitVec.ofNat 8 (w / 65536)]

/-- The instruction the decoder reads from a table word, in the FULL profile. -/
def decodeTableWord (nbits w : Nat) : Option Instr :=
  match decode .full (tableWordBytes nbits w) with
  | .ok (i, _) => some i
  | .error _ => none

/-- The opcode byte of each row (30_encoding.md R85). -/
def Instr.opcode : Instr → Byte
  | .ldaImm _ => 0xA9
  | .ldaZp _ => 0xA5
  | .ldaZpX _ => 0xB5
  | .ldaAbs _ => 0xAD
  | .ldaAbsX _ => 0xBD
  | .ldaAbsY _ => 0xB9
  | .ldaIndX _ => 0xA1
  | .ldaIndY _ => 0xB1
  | .ldxImm _ => 0xA2
  | .ldxZp _ => 0xA6
  | .ldxZpY _ => 0xB6
  | .ldxAbs _ => 0xAE
  | .ldxAbsY _ => 0xBE
  | .ldyImm _ => 0xA0
  | .ldyZp _ => 0xA4
  | .ldyZpX _ => 0xB4
  | .ldyAbs _ => 0xAC
  | .ldyAbsX _ => 0xBC
  | .staZp _ => 0x85
  | .staZpX _ => 0x95
  | .staAbs _ => 0x8D
  | .staAbsX _ => 0x9D
  | .staAbsY _ => 0x99
  | .staIndX _ => 0x81
  | .staIndY _ => 0x91
  | .stxZp _ => 0x86
  | .stxZpY _ => 0x96
  | .stxAbs _ => 0x8E
  | .styZp _ => 0x84
  | .styZpX _ => 0x94
  | .styAbs _ => 0x8C
  | .tax => 0xAA
  | .tay => 0xA8
  | .txa => 0x8A
  | .tya => 0x98
  | .tsx => 0xBA
  | .txs => 0x9A
  | .pha => 0x48
  | .php => 0x08
  | .pla => 0x68
  | .plp => 0x28
  | .andImm _ => 0x29
  | .andZp _ => 0x25
  | .andZpX _ => 0x35
  | .andAbs _ => 0x2D
  | .andAbsX _ => 0x3D
  | .andAbsY _ => 0x39
  | .andIndX _ => 0x21
  | .andIndY _ => 0x31
  | .eorImm _ => 0x49
  | .eorZp _ => 0x45
  | .eorZpX _ => 0x55
  | .eorAbs _ => 0x4D
  | .eorAbsX _ => 0x5D
  | .eorAbsY _ => 0x59
  | .eorIndX _ => 0x41
  | .eorIndY _ => 0x51
  | .oraImm _ => 0x09
  | .oraZp _ => 0x05
  | .oraZpX _ => 0x15
  | .oraAbs _ => 0x0D
  | .oraAbsX _ => 0x1D
  | .oraAbsY _ => 0x19
  | .oraIndX _ => 0x01
  | .oraIndY _ => 0x11
  | .bitZp _ => 0x24
  | .bitAbs _ => 0x2C
  | .jmpAbs _ => 0x4C
  | .jmpInd _ => 0x6C
  | .jsr _ => 0x20
  | .rts => 0x60
  | .adcImm _ => 0x69
  | .adcZp _ => 0x65
  | .adcZpX _ => 0x75
  | .adcAbs _ => 0x6D
  | .adcAbsX _ => 0x7D
  | .adcAbsY _ => 0x79
  | .adcIndX _ => 0x61
  | .adcIndY _ => 0x71
  | .sbcImm _ => 0xE9
  | .sbcZp _ => 0xE5
  | .sbcZpX _ => 0xF5
  | .sbcAbs _ => 0xED
  | .sbcAbsX _ => 0xFD
  | .sbcAbsY _ => 0xF9
  | .sbcIndX _ => 0xE1
  | .sbcIndY _ => 0xF1
  | .cmpImm _ => 0xC9
  | .cmpZp _ => 0xC5
  | .cmpZpX _ => 0xD5
  | .cmpAbs _ => 0xCD
  | .cmpAbsX _ => 0xDD
  | .cmpAbsY _ => 0xD9
  | .cmpIndX _ => 0xC1
  | .cmpIndY _ => 0xD1
  | .cpxImm _ => 0xE0
  | .cpxZp _ => 0xE4
  | .cpxAbs _ => 0xEC
  | .cpyImm _ => 0xC0
  | .cpyZp _ => 0xC4
  | .cpyAbs _ => 0xCC
  | .incZp _ => 0xE6
  | .incZpX _ => 0xF6
  | .incAbs _ => 0xEE
  | .incAbsX _ => 0xFE
  | .decZp _ => 0xC6
  | .decZpX _ => 0xD6
  | .decAbs _ => 0xCE
  | .decAbsX _ => 0xDE
  | .inx => 0xE8
  | .iny => 0xC8
  | .dex => 0xCA
  | .dey => 0x88
  | .aslAcc => 0x0A
  | .aslZp _ => 0x06
  | .aslZpX _ => 0x16
  | .aslAbs _ => 0x0E
  | .aslAbsX _ => 0x1E
  | .lsrAcc => 0x4A
  | .lsrZp _ => 0x46
  | .lsrZpX _ => 0x56
  | .lsrAbs _ => 0x4E
  | .lsrAbsX _ => 0x5E
  | .rolAcc => 0x2A
  | .rolZp _ => 0x26
  | .rolZpX _ => 0x36
  | .rolAbs _ => 0x2E
  | .rolAbsX _ => 0x3E
  | .rorAcc => 0x6A
  | .rorZp _ => 0x66
  | .rorZpX _ => 0x76
  | .rorAbs _ => 0x6E
  | .rorAbsX _ => 0x7E
  | .bpl _ => 0x10
  | .bmi _ => 0x30
  | .bvc _ => 0x50
  | .bvs _ => 0x70
  | .bcc _ => 0x90
  | .bcs _ => 0xB0
  | .bne _ => 0xD0
  | .beq _ => 0xF0
  | .clc => 0x18
  | .sec => 0x38
  | .cli => 0x58
  | .sei => 0x78
  | .clv => 0xB8
  | .cld => 0xD8
  | .sed => 0xF8
  | .nop => 0xEA

/-- The operand bytes of a memory mode, in the order they are fetched (30_encoding.md R62, R64). -/
def MemMode.operandBytes : MemMode → List Byte
  | .zeroPage b | .zeroPageX b | .zeroPageY b | .indirectX b | .indirectY b => [b]
  | .absolute w | .absoluteX w | .absoluteY w | .indirect w => [loByte w, hiByte w]

/-- The operand bytes of an operand source (30_encoding.md R62, R64). -/
def Source.operandBytes : Source → List Byte
  | .immediate b => [b]
  | .memory m => m.operandBytes

/-- The operand bytes of an addressing mode (30_encoding.md R62, R64). -/
def AddrMode.operandBytes : AddrMode → List Byte
  | .implied | .accumulator => []
  | .source src => src.operandBytes
  | .relative d => [d]

/-- The bytes of an instruction, opcode first (30_encoding.md R62). -/
def encode (i : Instr) : List Byte := i.opcode :: i.mode.operandBytes

/-- The instruction's length in bytes (30_encoding.md R62, R63). -/
def Instr.length (i : Instr) : Nat := (encode i).length

end Sys2Proof
end

