-- ==== Sys2Proof/Machine/State.lean ====
section
/-! DEFINITION. The machine's state as plain data (10_state.md R20 to R44), the reasons a step can stop, and the state right
after reset (70_reset_and_hazards.md R196). -/

namespace Sys2Proof.Machine

/-- Memory (10_state.md R40): the bytes that are not 0x00, by address, addresses rising (`Memory.wf`). An address not listed
reads 0x00, what reset leaves everywhere (70_reset_and_hazards.md R196; log entry 9). -/
abbrev Memory := List Host.Cell

/-- The event a decode failure reports (10_state.md R42; 60_exceptions.md R170). -/
structure DecodeFailure where
  opcode : Byte
  address : Addr
  deriving DecidableEq, Repr

/-- The faults a step can stop with. -/
inductive Fault where
  /-- Raised by `step` alone, when the HALT policy's latch is set: no instruction runs until reset (10_state.md R41,
  70_reset_and_hazards.md R207). Safe: the spec's machine is stuck there too (log entry 3). -/
  | halted
  deriving DecidableEq, Repr

/-- The refusals a step can stop with. -/
inductive Refusal where
  /-- Raised by `exec` for an instruction without a meaning; no arm raises it. Safe. -/
  | notModelled (mnemonic : String)
  /-- `DecimalArithmetic(op, addr)`: raised by ADC and SBC when D = 1 under `DECIMAL_MODE = REFUSE`, where the spec gives no
  successor state (60_exceptions.md R172). Safe: nothing is assumed of the hardware there. -/
  | decimalArithmetic (opcode : Byte) (address : Addr)
  deriving DecidableEq, Repr

/-- The machine. `a` to `mem` are the architectural state (10_state.md R20 to R26, R40) and `halted` is the HALT policy's
latch (R41). `budget`, `consumed` and `reports` are the current `execute` call's (R42, R43; DESIGN CHOICE, log entry 2: safe).
`config` is the parameters, which nothing writes (R44; DESIGN CHOICE, log entry 1: safe). -/
structure State where
  a : Byte
  x : Byte
  y : Byte
  sp : Byte
  pc : Addr
  p : Byte
  mem : Memory
  halted : Bool
  budget : Nat
  consumed : Nat
  reports : List DecodeFailure
  config : Config
  deriving DecidableEq, Repr

/-- What a step answers. -/
abbrev Result := Host.Outcome State Fault Refusal

/-- The state reset leaves in a machine with the given parameters (70_reset_and_hazards.md R196, R197). -/
def State.resetWith (c : Config) : State where
  a := 0x00
  x := 0x00
  y := 0x00
  sp := 0xFF
  pc := c.resetVector
  p := 0x00
  mem := []
  halted := false
  budget := 0
  consumed := 0
  reports := []
  config := c

/-- The machine right after reset, every parameter at its default (00_scope.md R6; 70_reset_and_hazards.md R196). -/
def State.reset : State := State.resetWith Config.default

end Sys2Proof.Machine
end

