-- ==== Sys2Proof/Machine/Cycles.lean ====
section
/-! DEFINITION. Cycle accounting (70_reset_and_hazards.md R202 to R205): the default CYCLE_TABLE, an opcode's row under the
machine's parameters, and the page-cross and branch penalties. -/

namespace Sys2Proof.Machine

/-- CYCLE_TABLE, opcodes 0x00 to 0x0F (R205). -/
def cycleRows0 : List CycleRow :=
  [⟨0x01, 6, .fixed⟩, ⟨0x05, 3, .fixed⟩, ⟨0x06, 5, .fixed⟩, ⟨0x08, 3, .fixed⟩, ⟨0x09, 2, .fixed⟩,
   ⟨0x0A, 2, .fixed⟩, ⟨0x0D, 4, .fixed⟩, ⟨0x0E, 6, .fixed⟩]

/-- CYCLE_TABLE, opcodes 0x10 to 0x1F (R205). -/
def cycleRows1 : List CycleRow :=
  [⟨0x10, 2, .branch⟩, ⟨0x11, 5, .page⟩, ⟨0x15, 4, .fixed⟩, ⟨0x16, 6, .fixed⟩, ⟨0x18, 2, .fixed⟩,
   ⟨0x19, 4, .page⟩, ⟨0x1D, 4, .page⟩, ⟨0x1E, 7, .fixed⟩]

/-- CYCLE_TABLE, opcodes 0x20 to 0x2F (R205). -/
def cycleRows2 : List CycleRow :=
  [⟨0x20, 6, .fixed⟩, ⟨0x21, 6, .fixed⟩, ⟨0x24, 3, .fixed⟩, ⟨0x25, 3, .fixed⟩, ⟨0x26, 5, .fixed⟩,
   ⟨0x28, 4, .fixed⟩, ⟨0x29, 2, .fixed⟩, ⟨0x2A, 2, .fixed⟩, ⟨0x2C, 4, .fixed⟩, ⟨0x2D, 4, .fixed⟩,
   ⟨0x2E, 6, .fixed⟩]

/-- CYCLE_TABLE, opcodes 0x30 to 0x3F (R205). -/
def cycleRows3 : List CycleRow :=
  [⟨0x30, 2, .branch⟩, ⟨0x31, 5, .page⟩, ⟨0x35, 4, .fixed⟩, ⟨0x36, 6, .fixed⟩, ⟨0x38, 2, .fixed⟩,
   ⟨0x39, 4, .page⟩, ⟨0x3D, 4, .page⟩, ⟨0x3E, 7, .fixed⟩]

/-- CYCLE_TABLE, opcodes 0x40 to 0x4F (R205). -/
def cycleRows4 : List CycleRow :=
  [⟨0x41, 6, .fixed⟩, ⟨0x45, 3, .fixed⟩, ⟨0x46, 5, .fixed⟩, ⟨0x48, 3, .fixed⟩, ⟨0x49, 2, .fixed⟩,
   ⟨0x4A, 2, .fixed⟩, ⟨0x4C, 3, .fixed⟩, ⟨0x4D, 4, .fixed⟩, ⟨0x4E, 6, .fixed⟩]

/-- CYCLE_TABLE, opcodes 0x50 to 0x5F (R205). -/
def cycleRows5 : List CycleRow :=
  [⟨0x50, 2, .branch⟩, ⟨0x51, 5, .page⟩, ⟨0x55, 4, .fixed⟩, ⟨0x56, 6, .fixed⟩, ⟨0x58, 2, .fixed⟩,
   ⟨0x59, 4, .page⟩, ⟨0x5D, 4, .page⟩, ⟨0x5E, 7, .fixed⟩]

/-- CYCLE_TABLE, opcodes 0x60 to 0x6F (R205). -/
def cycleRows6 : List CycleRow :=
  [⟨0x60, 6, .fixed⟩, ⟨0x61, 6, .fixed⟩, ⟨0x65, 3, .fixed⟩, ⟨0x66, 5, .fixed⟩, ⟨0x68, 4, .fixed⟩,
   ⟨0x69, 2, .fixed⟩, ⟨0x6A, 2, .fixed⟩, ⟨0x6C, 5, .fixed⟩, ⟨0x6D, 4, .fixed⟩, ⟨0x6E, 6, .fixed⟩]

/-- CYCLE_TABLE, opcodes 0x70 to 0x7F (R205). -/
def cycleRows7 : List CycleRow :=
  [⟨0x70, 2, .branch⟩, ⟨0x71, 5, .page⟩, ⟨0x75, 4, .fixed⟩, ⟨0x76, 6, .fixed⟩, ⟨0x78, 2, .fixed⟩,
   ⟨0x79, 4, .page⟩, ⟨0x7D, 4, .page⟩, ⟨0x7E, 7, .fixed⟩]

/-- CYCLE_TABLE, opcodes 0x80 to 0x8F (R205). -/
def cycleRows8 : List CycleRow :=
  [⟨0x81, 6, .fixed⟩, ⟨0x84, 3, .fixed⟩, ⟨0x85, 3, .fixed⟩, ⟨0x86, 3, .fixed⟩, ⟨0x88, 2, .fixed⟩,
   ⟨0x8A, 2, .fixed⟩, ⟨0x8C, 4, .fixed⟩, ⟨0x8D, 4, .fixed⟩, ⟨0x8E, 4, .fixed⟩]

/-- CYCLE_TABLE, opcodes 0x90 to 0x9F (R205). -/
def cycleRows9 : List CycleRow :=
  [⟨0x90, 2, .branch⟩, ⟨0x91, 6, .fixed⟩, ⟨0x94, 4, .fixed⟩, ⟨0x95, 4, .fixed⟩, ⟨0x96, 4, .fixed⟩,
   ⟨0x98, 2, .fixed⟩, ⟨0x99, 5, .fixed⟩, ⟨0x9A, 2, .fixed⟩, ⟨0x9D, 5, .fixed⟩]

/-- CYCLE_TABLE, opcodes 0xA0 to 0xAF (R205). -/
def cycleRowsA : List CycleRow :=
  [⟨0xA0, 2, .fixed⟩, ⟨0xA1, 6, .fixed⟩, ⟨0xA2, 2, .fixed⟩, ⟨0xA4, 3, .fixed⟩, ⟨0xA5, 3, .fixed⟩,
   ⟨0xA6, 3, .fixed⟩, ⟨0xA8, 2, .fixed⟩, ⟨0xA9, 2, .fixed⟩, ⟨0xAA, 2, .fixed⟩, ⟨0xAC, 4, .fixed⟩,
   ⟨0xAD, 4, .fixed⟩, ⟨0xAE, 4, .fixed⟩]

/-- CYCLE_TABLE, opcodes 0xB0 to 0xBF (R205). -/
def cycleRowsB : List CycleRow :=
  [⟨0xB0, 2, .branch⟩, ⟨0xB1, 5, .page⟩, ⟨0xB4, 4, .fixed⟩, ⟨0xB5, 4, .fixed⟩, ⟨0xB6, 4, .fixed⟩,
   ⟨0xB8, 2, .fixed⟩, ⟨0xB9, 4, .page⟩, ⟨0xBA, 2, .fixed⟩, ⟨0xBC, 4, .page⟩, ⟨0xBD, 4, .page⟩,
   ⟨0xBE, 4, .page⟩]

/-- CYCLE_TABLE, opcodes 0xC0 to 0xCF (R205). -/
def cycleRowsC : List CycleRow :=
  [⟨0xC0, 2, .fixed⟩, ⟨0xC1, 6, .fixed⟩, ⟨0xC4, 3, .fixed⟩, ⟨0xC5, 3, .fixed⟩, ⟨0xC6, 5, .fixed⟩,
   ⟨0xC8, 2, .fixed⟩, ⟨0xC9, 2, .fixed⟩, ⟨0xCA, 2, .fixed⟩, ⟨0xCC, 4, .fixed⟩, ⟨0xCD, 4, .fixed⟩,
   ⟨0xCE, 6, .fixed⟩]

/-- CYCLE_TABLE, opcodes 0xD0 to 0xDF (R205). -/
def cycleRowsD : List CycleRow :=
  [⟨0xD0, 2, .branch⟩, ⟨0xD1, 5, .page⟩, ⟨0xD5, 4, .fixed⟩, ⟨0xD6, 6, .fixed⟩, ⟨0xD8, 2, .fixed⟩,
   ⟨0xD9, 4, .page⟩, ⟨0xDD, 4, .page⟩, ⟨0xDE, 7, .fixed⟩]

/-- CYCLE_TABLE, opcodes 0xE0 to 0xEF (R205). -/
def cycleRowsE : List CycleRow :=
  [⟨0xE0, 2, .fixed⟩, ⟨0xE1, 6, .fixed⟩, ⟨0xE4, 3, .fixed⟩, ⟨0xE5, 3, .fixed⟩, ⟨0xE6, 5, .fixed⟩,
   ⟨0xE8, 2, .fixed⟩, ⟨0xE9, 2, .fixed⟩, ⟨0xEA, 2, .fixed⟩, ⟨0xEC, 4, .fixed⟩, ⟨0xED, 4, .fixed⟩,
   ⟨0xEE, 6, .fixed⟩]

/-- CYCLE_TABLE, opcodes 0xF0 to 0xFF (R205). -/
def cycleRowsF : List CycleRow :=
  [⟨0xF0, 2, .branch⟩, ⟨0xF1, 5, .page⟩, ⟨0xF5, 4, .fixed⟩, ⟨0xF6, 6, .fixed⟩, ⟨0xF8, 2, .fixed⟩,
   ⟨0xF9, 4, .page⟩, ⟨0xFD, 4, .page⟩, ⟨0xFE, 7, .fixed⟩]

/-- The default `CYCLE_TABLE` (70_reset_and_hazards.md R205), one list of rows for each high nibble of the opcode. -/
def defaultCycleTable : List (List CycleRow) :=
  [cycleRows0, cycleRows1, cycleRows2, cycleRows3, cycleRows4, cycleRows5, cycleRows6, cycleRows7,
   cycleRows8, cycleRows9, cycleRowsA, cycleRowsB, cycleRowsC, cycleRowsD, cycleRowsE, cycleRowsF]

/-- The first row of a list that is for the opcode. -/
def findRow : List CycleRow → Byte → Option CycleRow
  | [], _ => none
  | r :: rest, op => if r.opcode = op then some r else findRow rest op

/-- The row `CYCLE_TABLE` has for an opcode: the machine's own where it overrides one, else the default's. An opcode with no
handler has no row, and none is ever looked up for it. -/
def cycleRow (c : Config) (op : Byte) : CycleRow :=
  match findRow c.cycleOverrides op with
  | some r => r
  | none =>
    match findRow (defaultCycleTable.getD (op.toNat / 16) []) op with
    | some r => r
    | none => ⟨op, 1, .fixed⟩

/-- `base(op)` (R203). Every step costs at least 1, the opcode fetch (R202), so a table's 0 counts as 1 (DEDUCED, log
entry 5: unsafe for the cycle count under a table with a base of 0). -/
def baseCost (c : Config) (op : Byte) : Nat := max 1 (cycleRow c op).base

/-- The penalty class `CYCLE_TABLE` gives an opcode (R204). -/
def penaltyClass (c : Config) (op : Byte) : PenaltyClass := (cycleRow c op).penalty

/-- The page-cross penalty a read-class instruction adds (30_encoding.md R78): 1 when `crossed`, for an opcode of class
`page` (R204; DESIGN CHOICE, log entry 5: unsafe for the cycle count under other classes). -/
def pagePenalty (c : Config) (op : Byte) (crossed : Bool) : Nat :=
  if crossed && penaltyClass c op == .page then 1 else 0

/-- The penalty a taken branch adds (46_branch_flag.md R139): 1, and 1 more when the target is in another page than the next
instruction, for an opcode of class `branch` (R204; DESIGN CHOICE, log entry 5: unsafe for the cycle count under other classes). -/
def branchPenalty (c : Config) (op : Byte) (otherPage : Bool) : Nat :=
  if penaltyClass c op == .branch then (if otherPage then 2 else 1) else 0

end Sys2Proof.Machine
end

