-- ==== Sys2Proof/Machine/Flags.lean ====
section
/-! DEFINITION. The status byte's flags and every flag and result computation (10_state.md R26 to R36; 42_logical_bit.md R119;
44_arith_compare.md; 45_incdec_shift.md). -/

namespace Sys2Proof.Machine

/-- The eight flags of P (10_state.md R26). -/
inductive Flag where
  | c | z | i | d | b | u | v | n
  deriving DecidableEq, Repr

/-- A flag's bit in P (10_state.md R26). -/
def Flag.bit : Flag → Nat
  | .c => 0
  | .z => 1
  | .i => 2
  | .d => 3
  | .b => 4
  | .u => 5
  | .v => 6
  | .n => 7

/-- Flag f of a status byte (10_state.md R27). -/
def getFlag (p : Byte) (f : Flag) : Bool := p.getLsbD f.bit

/-- The status byte with flag f written (10_state.md R27). -/
def putFlag (p : Byte) (f : Flag) (value : Bool) : Byte :=
  if value then p ||| (1#8 <<< f.bit) else p &&& ~~~(1#8 <<< f.bit)

/-- A flag read as a number, 0 or 1 (00_scope.md R8). -/
def bitValue (b : Bool) : Nat := if b then 1 else 0

/-- Read flag f, the host's `get_flag` (10_state.md R27). -/
def State.flag (s : State) (f : Flag) : Bool := getFlag s.p f

/-- Write flag f, the host's `set_flag` (10_state.md R27). -/
def State.setFlag (s : State) (f : Flag) (value : Bool) : State := { s with p := putFlag s.p f value }

/-- `SetZN(v)` (10_state.md R36). -/
def State.setZN (s : State) (v : Byte) : State := (s.setFlag .z (v == 0)).setFlag .n (v.getLsbD 7)

/-- What an 8-bit addition gives: the result, the carry and the overflow. -/
structure Sum where
  value : Byte
  carry : Bool
  overflow : Bool
  deriving DecidableEq, Repr

/-- ADC's result and flags: the unbounded sum, reduced; C when it exceeds 0xFF; V when both operands have one sign and the
result the other (44_arith_compare.md R124). -/
def addWithCarry (a v : Byte) (carryIn : Bool) : Sum :=
  let sum := a.toNat + v.toNat + bitValue carryIn
  let r := BitVec.ofNat 8 sum
  ⟨r, decide (0xFF < sum), ((a ^^^ r) &&& (v ^^^ r)).getLsbD 7⟩

/-- SBC's result and flags: ADC of the operand's complement (44_arith_compare.md R125). -/
def subtractWithBorrow (a v : Byte) (carryIn : Bool) : Sum := addWithCarry a (~~~v) carryIn

/-- A compare's flags: C when the register is at least the operand, Z and N of the difference (44_arith_compare.md R126). -/
def State.setCompare (s : State) (register v : Byte) : State :=
  (s.setFlag .c (decide (v.toNat ≤ register.toNat))).setZN (register - v)

/-- BIT's flags: Z of the AND, V and N the operand's own bits 6 and 7 (42_logical_bit.md R119). -/
def State.setBitTest (s : State) (v : Byte) : State :=
  ((s.setFlag .z ((s.a &&& v) == 0)).setFlag .v (v.getLsbD 6)).setFlag .n (v.getLsbD 7)

/-- ASL: the shifted byte and the carry out (45_incdec_shift.md R135). -/
def asl (v : Byte) (_carryIn : Bool) : Byte × Bool := (v <<< 1, v.getLsbD 7)

/-- LSR: the shifted byte and the carry out (45_incdec_shift.md R136). -/
def lsr (v : Byte) (_carryIn : Bool) : Byte × Bool := (v >>> 1, v.getLsbD 0)

/-- ROL: the byte rotated left through the carry, and the carry out (45_incdec_shift.md R137). -/
def rol (v : Byte) (carryIn : Bool) : Byte × Bool := (v <<< 1 ||| (if carryIn then 0x01 else 0x00), v.getLsbD 7)

/-- ROR: the byte rotated right through the carry, and the carry out (45_incdec_shift.md R138). -/
def ror (v : Byte) (carryIn : Bool) : Byte × Bool := (v >>> 1 ||| (if carryIn then 0x80 else 0x00), v.getLsbD 0)

end Sys2Proof.Machine
end

