-- ==== Sys2Proof/Machine/Ops.lean ====
section
/-! DEFINITION. The named operations over memory and registers: the memory primitives (20_memory.md R46), the stack primitives
(R52 to R55), instruction fetch (30_encoding.md R61), the charge of a step (70_reset_and_hazards.md R203) and the one
exception (60_exceptions.md R170, R171). There is no return from an exception to model (60_exceptions.md R177). -/

namespace Sys2Proof.Machine

/-! ### Memory as a list of cells -/

/-- The byte an unlisted address reads as: what reset's zero-fill leaves (70_reset_and_hazards.md R196). -/
def unlistedByte : Byte := 0x00

/-- The byte stored at an address (20_memory.md R46). -/
def Memory.read : Memory → Nat → Byte
  | [], _ => unlistedByte
  | (k, v) :: rest, addr => if k = addr then v else Memory.read rest addr

/-- The memory with no entry for an address. -/
def Memory.erase : Memory → Nat → Memory
  | [], _ => []
  | (k, v) :: rest, addr => if k = addr then Memory.erase rest addr else (k, v) :: Memory.erase rest addr

/-- The memory with an entry put before the first higher address. -/
def Memory.insert : Memory → Nat → Byte → Memory
  | [], addr, w => [(addr, w)]
  | (k, v) :: rest, addr, w => if addr < k then (addr, w) :: (k, v) :: rest else (k, v) :: Memory.insert rest addr w

/-- Store a byte at an address (20_memory.md R46); storing what an unlisted address reads as removes the entry. -/
def Memory.write (m : Memory) (addr : Nat) (v : Byte) : Memory :=
  if v = unlistedByte then m.erase addr else (m.erase addr).insert addr v

/-- The canonical form: addresses strictly rising, inside the address space, and no entry equal to an unlisted byte. -/
abbrev Memory.wf (m : Memory) : Prop :=
  m.Pairwise (fun c d => c.1 < d.1) ∧ ∀ c ∈ m, c.1 < memSize ∧ c.2 ≠ unlistedByte

/-! ### Memory primitives of the machine -/

/-- `MemRead(addr, 1)` (20_memory.md R46). -/
def State.byteAt (s : State) (addr : Addr) : Byte := s.mem.read addr.toNat

/-- `MemRead(addr, 2)`, little-endian, the second address modulo 65536 (20_memory.md R46, R47). -/
def State.wordAt (s : State) (addr : Addr) : Addr := joinBytes (s.byteAt (addr + 1)) (s.byteAt addr)

/-- `MemWrite(addr, 1, v)` (20_memory.md R46). -/
def State.setByte (s : State) (addr : Addr) (v : Byte) : State := { s with mem := s.mem.write addr.toNat v }

/-- Store bytes at rising addresses, modulo 65536: the host's program load (70_reset_and_hazards.md R198). -/
def State.setBytes (s : State) (addr : Addr) : List Byte → State
  | [] => s
  | b :: rest => (s.setByte addr b).setBytes (addr + 1) rest

/-! ### Register writes (10_state.md R37) -/

/-- `A <- v`. -/
def State.setA (s : State) (v : Byte) : State := { s with a := v }
/-- `X <- v`. -/
def State.setX (s : State) (v : Byte) : State := { s with x := v }
/-- `Y <- v`. -/
def State.setY (s : State) (v : Byte) : State := { s with y := v }
/-- `SP <- v`. -/
def State.setSp (s : State) (v : Byte) : State := { s with sp := v }
/-- `PC <- target`. -/
def State.setPc (s : State) (target : Addr) : State := { s with pc := target }
/-- `P <- v`, all eight flags at once, the host's `set_flags_byte` (10_state.md R27). -/
def State.setP (s : State) (v : Byte) : State := { s with p := v }

/-! ### The stack (20_memory.md R52 to R56) -/

/-- The address of the stack byte SP names: `STACK_BASE + SP` (10_state.md R24). -/
def stackAddr (sp : Byte) : Addr := 0x0100 + zeroExtend16 sp

/-- `Push(v)` (R52). -/
def State.push (s : State) (v : Byte) : State := (s.setByte (stackAddr s.sp) v).setSp (s.sp - 1)

/-- `Pull()` (R53): the byte and the machine with SP moved. -/
def State.pull (s : State) : Byte × State :=
  let s := s.setSp (s.sp + 1)
  (s.byteAt (stackAddr s.sp), s)

/-- `Push16(w)` (R54). -/
def State.push16 (s : State) (w : Addr) : State := (s.push (hiByte w)).push (loByte w)

/-- `Pull16()` (R55). -/
def State.pull16 (s : State) : Addr × State :=
  let low := s.pull
  let high := low.2.pull
  (joinBytes high.1 low.1, high.2)

/-! ### Fetch, charge, exception -/

/-- PC moved past n fetched bytes (30_encoding.md R61, 10_state.md R25). -/
def State.advance (s : State) (n : Nat) : State := s.setPc (s.pc + BitVec.ofNat 16 n)

/-- The bytes at PC, as many as the longest instruction has; byte i is at `(PC + i) mod 65536` (30_encoding.md R62). -/
def State.fetchBytes (s : State) : List Byte := [s.byteAt s.pc, s.byteAt (s.pc + 1), s.byteAt (s.pc + 2)]

/-- Add cycles to the current call's count, as a single unit after the step (70_reset_and_hazards.md R203). -/
def State.charge (s : State) (cycles : Nat) : State := { s with consumed := s.consumed + cycles }

/-- End an instruction: its base cost and its penalty are charged (70_reset_and_hazards.md R203). -/
def finish (op : Byte) (penalty : Nat) (s : State) : Result := .next (s.charge (baseCost s.config op + penalty))

/-- Whether the HALT policy's latch stops the machine; under LOG_AND_CONTINUE the latch does not exist (10_state.md R41). -/
def State.latched (s : State) : Bool := s.config.unknownOpcode == .halt && s.halted

/-- `raise DecodeFailure(op, addr)` at the opcode byte PC names (60_exceptions.md R170, R171, R175): PC goes past it, the event
is reported, one cycle is charged, and under HALT the latch is set. Nothing else changes. -/
def State.takeDecodeFailure (s : State) : State :=
  { s with
    pc := s.pc + 1
    reports := s.reports ++ [⟨s.byteAt s.pc, s.pc⟩]
    consumed := s.consumed + 1
    halted := if s.config.unknownOpcode = .halt then true else s.halted }

end Sys2Proof.Machine
end

