-- ==== Sys2Proof/Machine/Operands.lean ====
section
/-! DEFINITION. The addressing-mode resolver (30_encoding.md R66 to R80) and the shared forms of the instructions that use it.
The decoder has already fetched the operand bytes (R58 makes the order unobservable; DEDUCED, log entry 6: safe). -/

namespace Sys2Proof.Machine

/-- What `Resolve(mode)` returns: the effective address, and whether an index addition changed its high byte (R66). -/
structure Resolved where
  ea : Addr
  crossed : Bool
  deriving DecidableEq, Repr

/-- `ZpNext(p)`, the address of a zero-page pointer's high byte, by `ZP_PTR_WRAP` (R76). -/
def zpNext (c : Config) (p : Byte) : Addr := if c.zpPtrWrap then zeroExtend16 (p + 1) else zeroExtend16 p + 1

/-- The 16-bit pointer at a zero-page address, low byte first (R76, R77; 20_memory.md R47). -/
def State.zpPointer (s : State) (p : Byte) : Addr :=
  joinBytes (s.byteAt (zpNext s.config p)) (s.byteAt (zeroExtend16 p))

/-- A base address plus an index, modulo 65536, with the page-cross test of R75. -/
def indexed (base : Addr) (index : Byte) : Resolved :=
  let ea := base + zeroExtend16 index
  ⟨ea, hiByte ea != hiByte base⟩

/-- The address of the high byte of an indirect jump's pointer, by `JMP_IND_PAGE_WRAP` (R74). -/
def jumpPointerNext (c : Config) (ptr : Addr) : Addr :=
  if c.jmpIndPageWrap then joinBytes (hiByte ptr) (loByte ptr + 1) else ptr + 1

/-- `Resolve(mode)` (R66, R68 to R77). -/
def resolve (s : State) : MemMode → Resolved
  | .zeroPage b => ⟨zeroExtend16 b, false⟩
  | .zeroPageX b => ⟨zeroExtend16 (b + s.x), false⟩
  | .zeroPageY b => ⟨zeroExtend16 (b + s.y), false⟩
  | .absolute w => ⟨w, false⟩
  | .absoluteX w => indexed w s.x
  | .absoluteY w => indexed w s.y
  | .indirect w => ⟨joinBytes (s.byteAt (jumpPointerNext s.config w)) (s.byteAt w), false⟩
  | .indirectX b => ⟨s.zpPointer (b + s.x), false⟩
  | .indirectY b => indexed (s.zpPointer b) s.y

/-- The value of `Operand(mode)` (R67, R78). -/
def operand (s : State) : Source → Byte
  | .immediate b => b
  | .memory m => s.byteAt (resolve s m).ea

/-- Whether `Operand(mode)` crossed a page (R78). -/
def operandCrossed (s : State) : Source → Bool
  | .immediate _ => false
  | .memory m => (resolve s m).crossed

/-- A read-class instruction: PC past its bytes, the effect of the operand's value, the page-cross penalty (R78). -/
def readOperand (op : Byte) (src : Source) (effect : Byte → State → State) (s : State) : Result :=
  finish op (pagePenalty s.config op (operandCrossed s src))
    (effect (operand s src) (s.advance (1 + src.operandBytes.length)))

/-- A store: the register's byte goes to the effective address; `crossed` is ignored (40_load_store.md R103). -/
def storeByte (op : Byte) (m : MemMode) (v : Byte) (s : State) : Result :=
  finish op 0 ((s.advance (1 + m.operandBytes.length)).setByte (resolve s m).ea v)

/-- An implied-mode copy into a register, with `SetZN` of the byte (41_transfer_stack.md, 45_incdec_shift.md). -/
def transfer (op : Byte) (v : Byte) (write : State → Byte → State) (s : State) : Result :=
  finish op 0 ((write (s.advance 1) v).setZN v)

end Sys2Proof.Machine
end

