-- ==== Sys2Proof/Machine/ArithCompare.lean ====
section
/-! DEFINITION. The meanings of the arithmetic and compare instructions (44_arith_compare.md R124 to R128). -/

namespace Sys2Proof.Machine

/-- ADC and SBC after the decimal check: the result goes to A, and C, V, Z, N are written (R124, R125). -/
def accumulate (op : Byte) (src : Source) (compute : Byte → Byte → Bool → Sum) (s : State) : Result :=
  readOperand op src
    (fun v t =>
      let r := compute s.a v (s.flag .c)
      (((t.setFlag .c r.carry).setFlag .v r.overflow).setA r.value).setZN r.value)
    s

/-- Whether ADC and SBC are refused: D = 1 under DECIMAL_MODE = REFUSE (60_exceptions.md R172). -/
def State.refusesDecimal (s : State) : Bool := s.flag .d && s.config.decimalMode == .refuse

/-- ADC (R124), with the refusal of 60_exceptions.md R172, which names the opcode and its address. -/
def adc (op : Byte) (src : Source) (s : State) : Result :=
  if s.refusesDecimal then .refused (.decimalArithmetic op s.pc) else accumulate op src addWithCarry s

/-- SBC (R125), with the refusal of 60_exceptions.md R172, which names the opcode and its address. -/
def sbc (op : Byte) (src : Source) (s : State) : Result :=
  if s.refusesDecimal then .refused (.decimalArithmetic op s.pc) else accumulate op src subtractWithBorrow s

/-- CMP (R126). -/
def cmp (op : Byte) (src : Source) (s : State) : Result := readOperand op src (fun v t => t.setCompare s.a v) s

/-- CPX (R127). -/
def cpx (op : Byte) (src : Source) (s : State) : Result := readOperand op src (fun v t => t.setCompare s.x v) s

/-- CPY (R128). -/
def cpy (op : Byte) (src : Source) (s : State) : Result := readOperand op src (fun v t => t.setCompare s.y v) s

/-- ADC immediate, opcode 0x69 (R124, R67). -/
def execAdcImm (b : Byte) (s : State) : Result := adc 0x69 (.immediate b) s

/-- ADC zero-page, opcode 0x65 (R124, R68). -/
def execAdcZp (b : Byte) (s : State) : Result := adc 0x65 (.memory (.zeroPage b)) s

/-- ADC zero-page,X, opcode 0x75 (R124, R69). -/
def execAdcZpX (b : Byte) (s : State) : Result := adc 0x75 (.memory (.zeroPageX b)) s

/-- ADC absolute, opcode 0x6D (R124, R71). -/
def execAdcAbs (w : Addr) (s : State) : Result := adc 0x6D (.memory (.absolute w)) s

/-- ADC absolute,X, opcode 0x7D (R124, R72). -/
def execAdcAbsX (w : Addr) (s : State) : Result := adc 0x7D (.memory (.absoluteX w)) s

/-- ADC absolute,Y, opcode 0x79 (R124, R73). -/
def execAdcAbsY (w : Addr) (s : State) : Result := adc 0x79 (.memory (.absoluteY w)) s

/-- ADC (indirect,X), opcode 0x61 (R124, R76). -/
def execAdcIndX (b : Byte) (s : State) : Result := adc 0x61 (.memory (.indirectX b)) s

/-- ADC (indirect),Y, opcode 0x71 (R124, R77). -/
def execAdcIndY (b : Byte) (s : State) : Result := adc 0x71 (.memory (.indirectY b)) s

/-- SBC immediate, opcode 0xE9 (R125, R67). -/
def execSbcImm (b : Byte) (s : State) : Result := sbc 0xE9 (.immediate b) s

/-- SBC zero-page, opcode 0xE5 (R125, R68). -/
def execSbcZp (b : Byte) (s : State) : Result := sbc 0xE5 (.memory (.zeroPage b)) s

/-- SBC zero-page,X, opcode 0xF5 (R125, R69). -/
def execSbcZpX (b : Byte) (s : State) : Result := sbc 0xF5 (.memory (.zeroPageX b)) s

/-- SBC absolute, opcode 0xED (R125, R71). -/
def execSbcAbs (w : Addr) (s : State) : Result := sbc 0xED (.memory (.absolute w)) s

/-- SBC absolute,X, opcode 0xFD (R125, R72). -/
def execSbcAbsX (w : Addr) (s : State) : Result := sbc 0xFD (.memory (.absoluteX w)) s

/-- SBC absolute,Y, opcode 0xF9 (R125, R73). -/
def execSbcAbsY (w : Addr) (s : State) : Result := sbc 0xF9 (.memory (.absoluteY w)) s

/-- SBC (indirect,X), opcode 0xE1 (R125, R76). -/
def execSbcIndX (b : Byte) (s : State) : Result := sbc 0xE1 (.memory (.indirectX b)) s

/-- SBC (indirect),Y, opcode 0xF1 (R125, R77). -/
def execSbcIndY (b : Byte) (s : State) : Result := sbc 0xF1 (.memory (.indirectY b)) s

/-- CMP immediate, opcode 0xC9 (R126, R67). -/
def execCmpImm (b : Byte) (s : State) : Result := cmp 0xC9 (.immediate b) s

/-- CMP zero-page, opcode 0xC5 (R126, R68). -/
def execCmpZp (b : Byte) (s : State) : Result := cmp 0xC5 (.memory (.zeroPage b)) s

/-- CMP zero-page,X, opcode 0xD5 (R126, R69). -/
def execCmpZpX (b : Byte) (s : State) : Result := cmp 0xD5 (.memory (.zeroPageX b)) s

/-- CMP absolute, opcode 0xCD (R126, R71). -/
def execCmpAbs (w : Addr) (s : State) : Result := cmp 0xCD (.memory (.absolute w)) s

/-- CMP absolute,X, opcode 0xDD (R126, R72). -/
def execCmpAbsX (w : Addr) (s : State) : Result := cmp 0xDD (.memory (.absoluteX w)) s

/-- CMP absolute,Y, opcode 0xD9 (R126, R73). -/
def execCmpAbsY (w : Addr) (s : State) : Result := cmp 0xD9 (.memory (.absoluteY w)) s

/-- CMP (indirect,X), opcode 0xC1 (R126, R76). -/
def execCmpIndX (b : Byte) (s : State) : Result := cmp 0xC1 (.memory (.indirectX b)) s

/-- CMP (indirect),Y, opcode 0xD1 (R126, R77). -/
def execCmpIndY (b : Byte) (s : State) : Result := cmp 0xD1 (.memory (.indirectY b)) s

/-- CPX immediate, opcode 0xE0 (R127, R67). -/
def execCpxImm (b : Byte) (s : State) : Result := cpx 0xE0 (.immediate b) s

/-- CPX zero-page, opcode 0xE4 (R127, R68). -/
def execCpxZp (b : Byte) (s : State) : Result := cpx 0xE4 (.memory (.zeroPage b)) s

/-- CPX absolute, opcode 0xEC (R127, R71). -/
def execCpxAbs (w : Addr) (s : State) : Result := cpx 0xEC (.memory (.absolute w)) s

/-- CPY immediate, opcode 0xC0 (R128, R67). -/
def execCpyImm (b : Byte) (s : State) : Result := cpy 0xC0 (.immediate b) s

/-- CPY zero-page, opcode 0xC4 (R128, R68). -/
def execCpyZp (b : Byte) (s : State) : Result := cpy 0xC4 (.memory (.zeroPage b)) s

/-- CPY absolute, opcode 0xCC (R128, R71). -/
def execCpyAbs (w : Addr) (s : State) : Result := cpy 0xCC (.memory (.absolute w)) s

end Sys2Proof.Machine
end

