-- ==== Sys2Proof/Machine/BranchFlag.lean ====
section
/-! DEFINITION. The meanings of the branches, the flag instructions and NOP (46_branch_flag.md R139 to R155). -/

namespace Sys2Proof.Machine

/-- Branch(cond) (R139): the target is the displacement from the next instruction (30_encoding.md R80). -/
def branch (op : Byte) (cond : Bool) (d : Byte) (s : State) : Result :=
  let t := s.advance 2
  let target := t.pc + signExtend16 d
  if cond then finish op (branchPenalty s.config op (hiByte target != hiByte t.pc)) (t.setPc target) else finish op 0 t

/-- The flag instructions: one flag is written (R148 to R154). -/
def writeFlag (op : Byte) (f : Flag) (value : Bool) (s : State) : Result :=
  finish op 0 ((s.advance 1).setFlag f value)

/-- BPL relative, opcode 0x10 (R140). -/
def execBpl (d : Byte) (s : State) : Result := branch 0x10 (!s.flag .n) d s

/-- BMI relative, opcode 0x30 (R141). -/
def execBmi (d : Byte) (s : State) : Result := branch 0x30 (s.flag .n) d s

/-- BVC relative, opcode 0x50 (R142). -/
def execBvc (d : Byte) (s : State) : Result := branch 0x50 (!s.flag .v) d s

/-- BVS relative, opcode 0x70 (R143). -/
def execBvs (d : Byte) (s : State) : Result := branch 0x70 (s.flag .v) d s

/-- BCC relative, opcode 0x90 (R144). -/
def execBcc (d : Byte) (s : State) : Result := branch 0x90 (!s.flag .c) d s

/-- BCS relative, opcode 0xB0 (R145). -/
def execBcs (d : Byte) (s : State) : Result := branch 0xB0 (s.flag .c) d s

/-- BNE relative, opcode 0xD0 (R146). -/
def execBne (d : Byte) (s : State) : Result := branch 0xD0 (!s.flag .z) d s

/-- BEQ relative, opcode 0xF0 (R147). -/
def execBeq (d : Byte) (s : State) : Result := branch 0xF0 (s.flag .z) d s

/-- CLC implied, opcode 0x18 (R148). -/
def execClc (s : State) : Result := writeFlag 0x18 .c false s

/-- SEC implied, opcode 0x38 (R149). -/
def execSec (s : State) : Result := writeFlag 0x38 .c true s

/-- CLI implied, opcode 0x58 (R150). -/
def execCli (s : State) : Result := writeFlag 0x58 .i false s

/-- SEI implied, opcode 0x78 (R151). -/
def execSei (s : State) : Result := writeFlag 0x78 .i true s

/-- CLV implied, opcode 0xB8 (R152). -/
def execClv (s : State) : Result := writeFlag 0xB8 .v false s

/-- CLD implied, opcode 0xD8 (R153). -/
def execCld (s : State) : Result := writeFlag 0xD8 .d false s

/-- SED implied, opcode 0xF8 (R154). -/
def execSed (s : State) : Result := writeFlag 0xF8 .d true s

/-- NOP implied, opcode 0xEA (R155). -/
def execNop (s : State) : Result := finish 0xEA 0 (s.advance 1)

end Sys2Proof.Machine
end

