-- ==== Sys2Proof/Machine/Control.lean ====
section
/-! DEFINITION. The meanings of the jump, call and return instructions (43_control.md R120 to R122). -/

namespace Sys2Proof.Machine

/-- JMP (R120). -/
def jump (op : Byte) (m : MemMode) (s : State) : Result := finish op 0 (s.setPc (resolve s m).ea)

/-- JSR (R121): both operand bytes are fetched, then the address of the last of them is pushed, then PC is the target. -/
def callSubroutine (op : Byte) (target : Addr) (s : State) : Result :=
  let t := s.advance 3
  finish op 0 ((t.push16 (t.pc - 1)).setPc target)

/-- RTS (R122). -/
def returnFromSubroutine (op : Byte) (s : State) : Result :=
  let pulled := (s.advance 1).pull16
  finish op 0 (pulled.2.setPc (pulled.1 + 1))

/-- JMP absolute, opcode 0x4C (R120, R71). -/
def execJmpAbs (w : Addr) (s : State) : Result := jump 0x4C (.absolute w) s

/-- JMP indirect, opcode 0x6C (R120, R74). -/
def execJmpInd (w : Addr) (s : State) : Result := jump 0x6C (.indirect w) s

/-- JSR absolute, opcode 0x20 (R121, R71). -/
def execJsr (w : Addr) (s : State) : Result := callSubroutine 0x20 w s

/-- RTS implied, opcode 0x60 (R122). -/
def execRts (s : State) : Result := returnFromSubroutine 0x60 s

end Sys2Proof.Machine
end

