-- ==== Sys2Proof/Machine/IncDecShift.lean ====
section
/-! DEFINITION. The meanings of the increment, decrement, shift and rotate instructions (45_incdec_shift.md R129 to R138). -/

namespace Sys2Proof.Machine

/-- INC and DEC: one read, one write of the same address, SetZN; crossed is ignored (R129, R130). -/
def modifyMemory (op : Byte) (m : MemMode) (compute : Byte → Byte) (s : State) : Result :=
  let ea := (resolve s m).ea
  let r := compute (s.byteAt ea)
  finish op 0 (((s.advance (1 + m.operandBytes.length)).setByte ea r).setZN r)

/-- INC (R129). -/
def inc (op : Byte) (m : MemMode) (s : State) : Result := modifyMemory op m (fun v => v + 1) s

/-- DEC (R130). -/
def dec (op : Byte) (m : MemMode) (s : State) : Result := modifyMemory op m (fun v => v - 1) s

/-- A shift or rotate of A (R135 to R138; 30_encoding.md R79). -/
def shiftAccumulator (op : Byte) (shift : Byte → Bool → Byte × Bool) (s : State) : Result :=
  let r := shift s.a (s.flag .c)
  finish op 0 ((((s.advance 1).setFlag .c r.2).setA r.1).setZN r.1)

/-- A shift or rotate of a memory byte (R135 to R138). -/
def shiftMemory (op : Byte) (shift : Byte → Bool → Byte × Bool) (m : MemMode) (s : State) : Result :=
  let ea := (resolve s m).ea
  let r := shift (s.byteAt ea) (s.flag .c)
  finish op 0 ((((s.advance (1 + m.operandBytes.length)).setFlag .c r.2).setByte ea r.1).setZN r.1)

/-- INC zero-page, opcode 0xE6 (R129, R68). -/
def execIncZp (b : Byte) (s : State) : Result := inc 0xE6 (.zeroPage b) s

/-- INC zero-page,X, opcode 0xF6 (R129, R69). -/
def execIncZpX (b : Byte) (s : State) : Result := inc 0xF6 (.zeroPageX b) s

/-- INC absolute, opcode 0xEE (R129, R71). -/
def execIncAbs (w : Addr) (s : State) : Result := inc 0xEE (.absolute w) s

/-- INC absolute,X, opcode 0xFE (R129, R72). -/
def execIncAbsX (w : Addr) (s : State) : Result := inc 0xFE (.absoluteX w) s

/-- DEC zero-page, opcode 0xC6 (R130, R68). -/
def execDecZp (b : Byte) (s : State) : Result := dec 0xC6 (.zeroPage b) s

/-- DEC zero-page,X, opcode 0xD6 (R130, R69). -/
def execDecZpX (b : Byte) (s : State) : Result := dec 0xD6 (.zeroPageX b) s

/-- DEC absolute, opcode 0xCE (R130, R71). -/
def execDecAbs (w : Addr) (s : State) : Result := dec 0xCE (.absolute w) s

/-- DEC absolute,X, opcode 0xDE (R130, R72). -/
def execDecAbsX (w : Addr) (s : State) : Result := dec 0xDE (.absoluteX w) s

/-- INX implied, opcode 0xE8 (R131). -/
def execInx (s : State) : Result := transfer 0xE8 (s.x + 1) State.setX s

/-- INY implied, opcode 0xC8 (R132). -/
def execIny (s : State) : Result := transfer 0xC8 (s.y + 1) State.setY s

/-- DEX implied, opcode 0xCA (R133). -/
def execDex (s : State) : Result := transfer 0xCA (s.x - 1) State.setX s

/-- DEY implied, opcode 0x88 (R134). -/
def execDey (s : State) : Result := transfer 0x88 (s.y - 1) State.setY s

/-- ASL accumulator, opcode 0x0A (R135). -/
def execAslAcc (s : State) : Result := shiftAccumulator 0x0A asl s

/-- ASL zero-page, opcode 0x06 (R135, R68). -/
def execAslZp (b : Byte) (s : State) : Result := shiftMemory 0x06 asl (.zeroPage b) s

/-- ASL zero-page,X, opcode 0x16 (R135, R69). -/
def execAslZpX (b : Byte) (s : State) : Result := shiftMemory 0x16 asl (.zeroPageX b) s

/-- ASL absolute, opcode 0x0E (R135, R71). -/
def execAslAbs (w : Addr) (s : State) : Result := shiftMemory 0x0E asl (.absolute w) s

/-- ASL absolute,X, opcode 0x1E (R135, R72). -/
def execAslAbsX (w : Addr) (s : State) : Result := shiftMemory 0x1E asl (.absoluteX w) s

/-- LSR accumulator, opcode 0x4A (R136). -/
def execLsrAcc (s : State) : Result := shiftAccumulator 0x4A lsr s

/-- LSR zero-page, opcode 0x46 (R136, R68). -/
def execLsrZp (b : Byte) (s : State) : Result := shiftMemory 0x46 lsr (.zeroPage b) s

/-- LSR zero-page,X, opcode 0x56 (R136, R69). -/
def execLsrZpX (b : Byte) (s : State) : Result := shiftMemory 0x56 lsr (.zeroPageX b) s

/-- LSR absolute, opcode 0x4E (R136, R71). -/
def execLsrAbs (w : Addr) (s : State) : Result := shiftMemory 0x4E lsr (.absolute w) s

/-- LSR absolute,X, opcode 0x5E (R136, R72). -/
def execLsrAbsX (w : Addr) (s : State) : Result := shiftMemory 0x5E lsr (.absoluteX w) s

/-- ROL accumulator, opcode 0x2A (R137). -/
def execRolAcc (s : State) : Result := shiftAccumulator 0x2A rol s

/-- ROL zero-page, opcode 0x26 (R137, R68). -/
def execRolZp (b : Byte) (s : State) : Result := shiftMemory 0x26 rol (.zeroPage b) s

/-- ROL zero-page,X, opcode 0x36 (R137, R69). -/
def execRolZpX (b : Byte) (s : State) : Result := shiftMemory 0x36 rol (.zeroPageX b) s

/-- ROL absolute, opcode 0x2E (R137, R71). -/
def execRolAbs (w : Addr) (s : State) : Result := shiftMemory 0x2E rol (.absolute w) s

/-- ROL absolute,X, opcode 0x3E (R137, R72). -/
def execRolAbsX (w : Addr) (s : State) : Result := shiftMemory 0x3E rol (.absoluteX w) s

/-- ROR accumulator, opcode 0x6A (R138). -/
def execRorAcc (s : State) : Result := shiftAccumulator 0x6A ror s

/-- ROR zero-page, opcode 0x66 (R138, R68). -/
def execRorZp (b : Byte) (s : State) : Result := shiftMemory 0x66 ror (.zeroPage b) s

/-- ROR zero-page,X, opcode 0x76 (R138, R69). -/
def execRorZpX (b : Byte) (s : State) : Result := shiftMemory 0x76 ror (.zeroPageX b) s

/-- ROR absolute, opcode 0x6E (R138, R71). -/
def execRorAbs (w : Addr) (s : State) : Result := shiftMemory 0x6E ror (.absolute w) s

/-- ROR absolute,X, opcode 0x7E (R138, R72). -/
def execRorAbsX (w : Addr) (s : State) : Result := shiftMemory 0x7E ror (.absoluteX w) s

end Sys2Proof.Machine
end

