-- ==== Sys2Proof/Machine/LoadStore.lean ====
section
/-! DEFINITION. The meanings of the load and store instructions (40_load_store.md R100 to R105). -/

namespace Sys2Proof.Machine

/-- LDA (R100). -/
def lda (op : Byte) (src : Source) (s : State) : Result := readOperand op src (fun v t => (t.setA v).setZN v) s

/-- LDX (R101). -/
def ldx (op : Byte) (src : Source) (s : State) : Result := readOperand op src (fun v t => (t.setX v).setZN v) s

/-- LDY (R102). -/
def ldy (op : Byte) (src : Source) (s : State) : Result := readOperand op src (fun v t => (t.setY v).setZN v) s

/-- STA (R103). -/
def sta (op : Byte) (m : MemMode) (s : State) : Result := storeByte op m s.a s

/-- STX (R104). -/
def stx (op : Byte) (m : MemMode) (s : State) : Result := storeByte op m s.x s

/-- STY (R105). -/
def sty (op : Byte) (m : MemMode) (s : State) : Result := storeByte op m s.y s

/-- LDA immediate, opcode 0xA9 (R100, R67). -/
def execLdaImm (b : Byte) (s : State) : Result := lda 0xA9 (.immediate b) s

/-- LDA zero-page, opcode 0xA5 (R100, R68). -/
def execLdaZp (b : Byte) (s : State) : Result := lda 0xA5 (.memory (.zeroPage b)) s

/-- LDA zero-page,X, opcode 0xB5 (R100, R69). -/
def execLdaZpX (b : Byte) (s : State) : Result := lda 0xB5 (.memory (.zeroPageX b)) s

/-- LDA absolute, opcode 0xAD (R100, R71). -/
def execLdaAbs (w : Addr) (s : State) : Result := lda 0xAD (.memory (.absolute w)) s

/-- LDA absolute,X, opcode 0xBD (R100, R72). -/
def execLdaAbsX (w : Addr) (s : State) : Result := lda 0xBD (.memory (.absoluteX w)) s

/-- LDA absolute,Y, opcode 0xB9 (R100, R73). -/
def execLdaAbsY (w : Addr) (s : State) : Result := lda 0xB9 (.memory (.absoluteY w)) s

/-- LDA (indirect,X), opcode 0xA1 (R100, R76). -/
def execLdaIndX (b : Byte) (s : State) : Result := lda 0xA1 (.memory (.indirectX b)) s

/-- LDA (indirect),Y, opcode 0xB1 (R100, R77). -/
def execLdaIndY (b : Byte) (s : State) : Result := lda 0xB1 (.memory (.indirectY b)) s

/-- LDX immediate, opcode 0xA2 (R101, R67). -/
def execLdxImm (b : Byte) (s : State) : Result := ldx 0xA2 (.immediate b) s

/-- LDX zero-page, opcode 0xA6 (R101, R68). -/
def execLdxZp (b : Byte) (s : State) : Result := ldx 0xA6 (.memory (.zeroPage b)) s

/-- LDX zero-page,Y, opcode 0xB6 (R101, R70). -/
def execLdxZpY (b : Byte) (s : State) : Result := ldx 0xB6 (.memory (.zeroPageY b)) s

/-- LDX absolute, opcode 0xAE (R101, R71). -/
def execLdxAbs (w : Addr) (s : State) : Result := ldx 0xAE (.memory (.absolute w)) s

/-- LDX absolute,Y, opcode 0xBE (R101, R73). -/
def execLdxAbsY (w : Addr) (s : State) : Result := ldx 0xBE (.memory (.absoluteY w)) s

/-- LDY immediate, opcode 0xA0 (R102, R67). -/
def execLdyImm (b : Byte) (s : State) : Result := ldy 0xA0 (.immediate b) s

/-- LDY zero-page, opcode 0xA4 (R102, R68). -/
def execLdyZp (b : Byte) (s : State) : Result := ldy 0xA4 (.memory (.zeroPage b)) s

/-- LDY zero-page,X, opcode 0xB4 (R102, R69). -/
def execLdyZpX (b : Byte) (s : State) : Result := ldy 0xB4 (.memory (.zeroPageX b)) s

/-- LDY absolute, opcode 0xAC (R102, R71). -/
def execLdyAbs (w : Addr) (s : State) : Result := ldy 0xAC (.memory (.absolute w)) s

/-- LDY absolute,X, opcode 0xBC (R102, R72). -/
def execLdyAbsX (w : Addr) (s : State) : Result := ldy 0xBC (.memory (.absoluteX w)) s

/-- STA zero-page, opcode 0x85 (R103, R68). -/
def execStaZp (b : Byte) (s : State) : Result := sta 0x85 (.zeroPage b) s

/-- STA zero-page,X, opcode 0x95 (R103, R69). -/
def execStaZpX (b : Byte) (s : State) : Result := sta 0x95 (.zeroPageX b) s

/-- STA absolute, opcode 0x8D (R103, R71). -/
def execStaAbs (w : Addr) (s : State) : Result := sta 0x8D (.absolute w) s

/-- STA absolute,X, opcode 0x9D (R103, R72). -/
def execStaAbsX (w : Addr) (s : State) : Result := sta 0x9D (.absoluteX w) s

/-- STA absolute,Y, opcode 0x99 (R103, R73). -/
def execStaAbsY (w : Addr) (s : State) : Result := sta 0x99 (.absoluteY w) s

/-- STA (indirect,X), opcode 0x81 (R103, R76). -/
def execStaIndX (b : Byte) (s : State) : Result := sta 0x81 (.indirectX b) s

/-- STA (indirect),Y, opcode 0x91 (R103, R77). -/
def execStaIndY (b : Byte) (s : State) : Result := sta 0x91 (.indirectY b) s

/-- STX zero-page, opcode 0x86 (R104, R68). -/
def execStxZp (b : Byte) (s : State) : Result := stx 0x86 (.zeroPage b) s

/-- STX zero-page,Y, opcode 0x96 (R104, R70). -/
def execStxZpY (b : Byte) (s : State) : Result := stx 0x96 (.zeroPageY b) s

/-- STX absolute, opcode 0x8E (R104, R71). -/
def execStxAbs (w : Addr) (s : State) : Result := stx 0x8E (.absolute w) s

/-- STY zero-page, opcode 0x84 (R105, R68). -/
def execStyZp (b : Byte) (s : State) : Result := sty 0x84 (.zeroPage b) s

/-- STY zero-page,X, opcode 0x94 (R105, R69). -/
def execStyZpX (b : Byte) (s : State) : Result := sty 0x94 (.zeroPageX b) s

/-- STY absolute, opcode 0x8C (R105, R71). -/
def execStyAbs (w : Addr) (s : State) : Result := sty 0x8C (.absolute w) s

end Sys2Proof.Machine
end

