-- ==== Sys2Proof/Machine/LogicalBit.lean ====
section
/-! DEFINITION. The meanings of the logical and bit-test instructions (42_logical_bit.md R116 to R119). -/

namespace Sys2Proof.Machine

/-- AND (R116). -/
def andA (op : Byte) (src : Source) (s : State) : Result :=
  readOperand op src (fun v t => (t.setA (s.a &&& v)).setZN (s.a &&& v)) s

/-- EOR (R117). -/
def eorA (op : Byte) (src : Source) (s : State) : Result :=
  readOperand op src (fun v t => (t.setA (s.a ^^^ v)).setZN (s.a ^^^ v)) s

/-- ORA (R118). -/
def oraA (op : Byte) (src : Source) (s : State) : Result :=
  readOperand op src (fun v t => (t.setA (s.a ||| v)).setZN (s.a ||| v)) s

/-- BIT (R119). -/
def bitTest (op : Byte) (src : Source) (s : State) : Result := readOperand op src (fun v t => t.setBitTest v) s

/-- AND immediate, opcode 0x29 (R116, R67). -/
def execAndImm (b : Byte) (s : State) : Result := andA 0x29 (.immediate b) s

/-- AND zero-page, opcode 0x25 (R116, R68). -/
def execAndZp (b : Byte) (s : State) : Result := andA 0x25 (.memory (.zeroPage b)) s

/-- AND zero-page,X, opcode 0x35 (R116, R69). -/
def execAndZpX (b : Byte) (s : State) : Result := andA 0x35 (.memory (.zeroPageX b)) s

/-- AND absolute, opcode 0x2D (R116, R71). -/
def execAndAbs (w : Addr) (s : State) : Result := andA 0x2D (.memory (.absolute w)) s

/-- AND absolute,X, opcode 0x3D (R116, R72). -/
def execAndAbsX (w : Addr) (s : State) : Result := andA 0x3D (.memory (.absoluteX w)) s

/-- AND absolute,Y, opcode 0x39 (R116, R73). -/
def execAndAbsY (w : Addr) (s : State) : Result := andA 0x39 (.memory (.absoluteY w)) s

/-- AND (indirect,X), opcode 0x21 (R116, R76). -/
def execAndIndX (b : Byte) (s : State) : Result := andA 0x21 (.memory (.indirectX b)) s

/-- AND (indirect),Y, opcode 0x31 (R116, R77). -/
def execAndIndY (b : Byte) (s : State) : Result := andA 0x31 (.memory (.indirectY b)) s

/-- EOR immediate, opcode 0x49 (R117, R67). -/
def execEorImm (b : Byte) (s : State) : Result := eorA 0x49 (.immediate b) s

/-- EOR zero-page, opcode 0x45 (R117, R68). -/
def execEorZp (b : Byte) (s : State) : Result := eorA 0x45 (.memory (.zeroPage b)) s

/-- EOR zero-page,X, opcode 0x55 (R117, R69). -/
def execEorZpX (b : Byte) (s : State) : Result := eorA 0x55 (.memory (.zeroPageX b)) s

/-- EOR absolute, opcode 0x4D (R117, R71). -/
def execEorAbs (w : Addr) (s : State) : Result := eorA 0x4D (.memory (.absolute w)) s

/-- EOR absolute,X, opcode 0x5D (R117, R72). -/
def execEorAbsX (w : Addr) (s : State) : Result := eorA 0x5D (.memory (.absoluteX w)) s

/-- EOR absolute,Y, opcode 0x59 (R117, R73). -/
def execEorAbsY (w : Addr) (s : State) : Result := eorA 0x59 (.memory (.absoluteY w)) s

/-- EOR (indirect,X), opcode 0x41 (R117, R76). -/
def execEorIndX (b : Byte) (s : State) : Result := eorA 0x41 (.memory (.indirectX b)) s

/-- EOR (indirect),Y, opcode 0x51 (R117, R77). -/
def execEorIndY (b : Byte) (s : State) : Result := eorA 0x51 (.memory (.indirectY b)) s

/-- ORA immediate, opcode 0x09 (R118, R67). -/
def execOraImm (b : Byte) (s : State) : Result := oraA 0x09 (.immediate b) s

/-- ORA zero-page, opcode 0x05 (R118, R68). -/
def execOraZp (b : Byte) (s : State) : Result := oraA 0x05 (.memory (.zeroPage b)) s

/-- ORA zero-page,X, opcode 0x15 (R118, R69). -/
def execOraZpX (b : Byte) (s : State) : Result := oraA 0x15 (.memory (.zeroPageX b)) s

/-- ORA absolute, opcode 0x0D (R118, R71). -/
def execOraAbs (w : Addr) (s : State) : Result := oraA 0x0D (.memory (.absolute w)) s

/-- ORA absolute,X, opcode 0x1D (R118, R72). -/
def execOraAbsX (w : Addr) (s : State) : Result := oraA 0x1D (.memory (.absoluteX w)) s

/-- ORA absolute,Y, opcode 0x19 (R118, R73). -/
def execOraAbsY (w : Addr) (s : State) : Result := oraA 0x19 (.memory (.absoluteY w)) s

/-- ORA (indirect,X), opcode 0x01 (R118, R76). -/
def execOraIndX (b : Byte) (s : State) : Result := oraA 0x01 (.memory (.indirectX b)) s

/-- ORA (indirect),Y, opcode 0x11 (R118, R77). -/
def execOraIndY (b : Byte) (s : State) : Result := oraA 0x11 (.memory (.indirectY b)) s

/-- BIT zero-page, opcode 0x24 (R119, R68). -/
def execBitZp (b : Byte) (s : State) : Result := bitTest 0x24 (.memory (.zeroPage b)) s

/-- BIT absolute, opcode 0x2C (R119, R71). -/
def execBitAbs (w : Addr) (s : State) : Result := bitTest 0x2C (.memory (.absolute w)) s

end Sys2Proof.Machine
end

