-- ==== Sys2Proof/Machine/TransferStack.lean ====
section
/-! DEFINITION. The meanings of the transfer and stack instructions (41_transfer_stack.md R106 to R115). -/

namespace Sys2Proof.Machine

/-- The pushes: PC past the opcode, then Push (R112, R113). -/
def pushByte (op : Byte) (v : Byte) (s : State) : Result := finish op 0 ((s.advance 1).push v)

/-- The pulls: PC past the opcode, then Pull, then the effect of the pulled byte (R114, R115). -/
def pullInto (op : Byte) (effect : Byte → State → State) (s : State) : Result :=
  let pulled := (s.advance 1).pull
  finish op 0 (effect pulled.1 pulled.2)

/-- TAX implied, opcode 0xAA (R106). -/
def execTax (s : State) : Result := transfer 0xAA s.a State.setX s

/-- TAY implied, opcode 0xA8 (R107). -/
def execTay (s : State) : Result := transfer 0xA8 s.a State.setY s

/-- TXA implied, opcode 0x8A (R108). -/
def execTxa (s : State) : Result := transfer 0x8A s.x State.setA s

/-- TYA implied, opcode 0x98 (R109). -/
def execTya (s : State) : Result := transfer 0x98 s.y State.setA s

/-- TSX implied, opcode 0xBA (R110). -/
def execTsx (s : State) : Result := transfer 0xBA s.sp State.setX s

/-- TXS implied, opcode 0x9A (R111). -/
def execTxs (s : State) : Result := finish 0x9A 0 ((s.advance 1).setSp s.x)

/-- PHA implied, opcode 0x48 (R112). -/
def execPha (s : State) : Result := pushByte 0x48 s.a s

/-- PHP implied, opcode 0x08 (R113). -/
def execPhp (s : State) : Result := pushByte 0x08 s.p s

/-- PLA implied, opcode 0x68 (R114). -/
def execPla (s : State) : Result := pullInto 0x68 (fun v t => (t.setA v).setZN v) s

/-- PLP implied, opcode 0x28 (R115). -/
def execPlp (s : State) : Result := pullInto 0x28 (fun v t => t.setP v) s

end Sys2Proof.Machine
end

