-- ==== Sys2Proof/Machine/Dispatch.lean ====
section
/-! DEFINITION. The dispatch of an instruction to its meaning (30_encoding.md R82): one arm for each constructor of Instr. -/

namespace Sys2Proof.Machine

def exec (i : Instr) (s : State) : Host.Outcome State Fault Refusal :=
  match i with
  -- Load and store (40_load_store.md)
  | .ldaImm b => Sys2Proof.Machine.execLdaImm b s
  | .ldaZp b => Sys2Proof.Machine.execLdaZp b s
  | .ldaZpX b => Sys2Proof.Machine.execLdaZpX b s
  | .ldaAbs w => Sys2Proof.Machine.execLdaAbs w s
  | .ldaAbsX w => Sys2Proof.Machine.execLdaAbsX w s
  | .ldaAbsY w => Sys2Proof.Machine.execLdaAbsY w s
  | .ldaIndX b => Sys2Proof.Machine.execLdaIndX b s
  | .ldaIndY b => Sys2Proof.Machine.execLdaIndY b s
  | .ldxImm b => Sys2Proof.Machine.execLdxImm b s
  | .ldxZp b => Sys2Proof.Machine.execLdxZp b s
  | .ldxZpY b => Sys2Proof.Machine.execLdxZpY b s
  | .ldxAbs w => Sys2Proof.Machine.execLdxAbs w s
  | .ldxAbsY w => Sys2Proof.Machine.execLdxAbsY w s
  | .ldyImm b => Sys2Proof.Machine.execLdyImm b s
  | .ldyZp b => Sys2Proof.Machine.execLdyZp b s
  | .ldyZpX b => Sys2Proof.Machine.execLdyZpX b s
  | .ldyAbs w => Sys2Proof.Machine.execLdyAbs w s
  | .ldyAbsX w => Sys2Proof.Machine.execLdyAbsX w s
  | .staZp b => Sys2Proof.Machine.execStaZp b s
  | .staZpX b => Sys2Proof.Machine.execStaZpX b s
  | .staAbs w => Sys2Proof.Machine.execStaAbs w s
  | .staAbsX w => Sys2Proof.Machine.execStaAbsX w s
  | .staAbsY w => Sys2Proof.Machine.execStaAbsY w s
  | .staIndX b => Sys2Proof.Machine.execStaIndX b s
  | .staIndY b => Sys2Proof.Machine.execStaIndY b s
  | .stxZp b => Sys2Proof.Machine.execStxZp b s
  | .stxZpY b => Sys2Proof.Machine.execStxZpY b s
  | .stxAbs w => Sys2Proof.Machine.execStxAbs w s
  | .styZp b => Sys2Proof.Machine.execStyZp b s
  | .styZpX b => Sys2Proof.Machine.execStyZpX b s
  | .styAbs w => Sys2Proof.Machine.execStyAbs w s
  -- Transfer and stack (41_transfer_stack.md)
  | .tax => Sys2Proof.Machine.execTax s
  | .tay => Sys2Proof.Machine.execTay s
  | .txa => Sys2Proof.Machine.execTxa s
  | .tya => Sys2Proof.Machine.execTya s
  | .tsx => Sys2Proof.Machine.execTsx s
  | .txs => Sys2Proof.Machine.execTxs s
  | .pha => Sys2Proof.Machine.execPha s
  | .php => Sys2Proof.Machine.execPhp s
  | .pla => Sys2Proof.Machine.execPla s
  | .plp => Sys2Proof.Machine.execPlp s
  -- Logical and bit test (42_logical_bit.md)
  | .andImm b => Sys2Proof.Machine.execAndImm b s
  | .andZp b => Sys2Proof.Machine.execAndZp b s
  | .andZpX b => Sys2Proof.Machine.execAndZpX b s
  | .andAbs w => Sys2Proof.Machine.execAndAbs w s
  | .andAbsX w => Sys2Proof.Machine.execAndAbsX w s
  | .andAbsY w => Sys2Proof.Machine.execAndAbsY w s
  | .andIndX b => Sys2Proof.Machine.execAndIndX b s
  | .andIndY b => Sys2Proof.Machine.execAndIndY b s
  | .eorImm b => Sys2Proof.Machine.execEorImm b s
  | .eorZp b => Sys2Proof.Machine.execEorZp b s
  | .eorZpX b => Sys2Proof.Machine.execEorZpX b s
  | .eorAbs w => Sys2Proof.Machine.execEorAbs w s
  | .eorAbsX w => Sys2Proof.Machine.execEorAbsX w s
  | .eorAbsY w => Sys2Proof.Machine.execEorAbsY w s
  | .eorIndX b => Sys2Proof.Machine.execEorIndX b s
  | .eorIndY b => Sys2Proof.Machine.execEorIndY b s
  | .oraImm b => Sys2Proof.Machine.execOraImm b s
  | .oraZp b => Sys2Proof.Machine.execOraZp b s
  | .oraZpX b => Sys2Proof.Machine.execOraZpX b s
  | .oraAbs w => Sys2Proof.Machine.execOraAbs w s
  | .oraAbsX w => Sys2Proof.Machine.execOraAbsX w s
  | .oraAbsY w => Sys2Proof.Machine.execOraAbsY w s
  | .oraIndX b => Sys2Proof.Machine.execOraIndX b s
  | .oraIndY b => Sys2Proof.Machine.execOraIndY b s
  | .bitZp b => Sys2Proof.Machine.execBitZp b s
  | .bitAbs w => Sys2Proof.Machine.execBitAbs w s
  -- Control (43_control.md)
  | .jmpAbs w => Sys2Proof.Machine.execJmpAbs w s
  | .jmpInd w => Sys2Proof.Machine.execJmpInd w s
  | .jsr w => Sys2Proof.Machine.execJsr w s
  | .rts => Sys2Proof.Machine.execRts s
  -- Arithmetic and compare (44_arith_compare.md)
  | .adcImm b => Sys2Proof.Machine.execAdcImm b s
  | .adcZp b => Sys2Proof.Machine.execAdcZp b s
  | .adcZpX b => Sys2Proof.Machine.execAdcZpX b s
  | .adcAbs w => Sys2Proof.Machine.execAdcAbs w s
  | .adcAbsX w => Sys2Proof.Machine.execAdcAbsX w s
  | .adcAbsY w => Sys2Proof.Machine.execAdcAbsY w s
  | .adcIndX b => Sys2Proof.Machine.execAdcIndX b s
  | .adcIndY b => Sys2Proof.Machine.execAdcIndY b s
  | .sbcImm b => Sys2Proof.Machine.execSbcImm b s
  | .sbcZp b => Sys2Proof.Machine.execSbcZp b s
  | .sbcZpX b => Sys2Proof.Machine.execSbcZpX b s
  | .sbcAbs w => Sys2Proof.Machine.execSbcAbs w s
  | .sbcAbsX w => Sys2Proof.Machine.execSbcAbsX w s
  | .sbcAbsY w => Sys2Proof.Machine.execSbcAbsY w s
  | .sbcIndX b => Sys2Proof.Machine.execSbcIndX b s
  | .sbcIndY b => Sys2Proof.Machine.execSbcIndY b s
  | .cmpImm b => Sys2Proof.Machine.execCmpImm b s
  | .cmpZp b => Sys2Proof.Machine.execCmpZp b s
  | .cmpZpX b => Sys2Proof.Machine.execCmpZpX b s
  | .cmpAbs w => Sys2Proof.Machine.execCmpAbs w s
  | .cmpAbsX w => Sys2Proof.Machine.execCmpAbsX w s
  | .cmpAbsY w => Sys2Proof.Machine.execCmpAbsY w s
  | .cmpIndX b => Sys2Proof.Machine.execCmpIndX b s
  | .cmpIndY b => Sys2Proof.Machine.execCmpIndY b s
  | .cpxImm b => Sys2Proof.Machine.execCpxImm b s
  | .cpxZp b => Sys2Proof.Machine.execCpxZp b s
  | .cpxAbs w => Sys2Proof.Machine.execCpxAbs w s
  | .cpyImm b => Sys2Proof.Machine.execCpyImm b s
  | .cpyZp b => Sys2Proof.Machine.execCpyZp b s
  | .cpyAbs w => Sys2Proof.Machine.execCpyAbs w s
  -- Increment, decrement, shift, rotate (45_incdec_shift.md)
  | .incZp b => Sys2Proof.Machine.execIncZp b s
  | .incZpX b => Sys2Proof.Machine.execIncZpX b s
  | .incAbs w => Sys2Proof.Machine.execIncAbs w s
  | .incAbsX w => Sys2Proof.Machine.execIncAbsX w s
  | .decZp b => Sys2Proof.Machine.execDecZp b s
  | .decZpX b => Sys2Proof.Machine.execDecZpX b s
  | .decAbs w => Sys2Proof.Machine.execDecAbs w s
  | .decAbsX w => Sys2Proof.Machine.execDecAbsX w s
  | .inx => Sys2Proof.Machine.execInx s
  | .iny => Sys2Proof.Machine.execIny s
  | .dex => Sys2Proof.Machine.execDex s
  | .dey => Sys2Proof.Machine.execDey s
  | .aslAcc => Sys2Proof.Machine.execAslAcc s
  | .aslZp b => Sys2Proof.Machine.execAslZp b s
  | .aslZpX b => Sys2Proof.Machine.execAslZpX b s
  | .aslAbs w => Sys2Proof.Machine.execAslAbs w s
  | .aslAbsX w => Sys2Proof.Machine.execAslAbsX w s
  | .lsrAcc => Sys2Proof.Machine.execLsrAcc s
  | .lsrZp b => Sys2Proof.Machine.execLsrZp b s
  | .lsrZpX b => Sys2Proof.Machine.execLsrZpX b s
  | .lsrAbs w => Sys2Proof.Machine.execLsrAbs w s
  | .lsrAbsX w => Sys2Proof.Machine.execLsrAbsX w s
  | .rolAcc => Sys2Proof.Machine.execRolAcc s
  | .rolZp b => Sys2Proof.Machine.execRolZp b s
  | .rolZpX b => Sys2Proof.Machine.execRolZpX b s
  | .rolAbs w => Sys2Proof.Machine.execRolAbs w s
  | .rolAbsX w => Sys2Proof.Machine.execRolAbsX w s
  | .rorAcc => Sys2Proof.Machine.execRorAcc s
  | .rorZp b => Sys2Proof.Machine.execRorZp b s
  | .rorZpX b => Sys2Proof.Machine.execRorZpX b s
  | .rorAbs w => Sys2Proof.Machine.execRorAbs w s
  | .rorAbsX w => Sys2Proof.Machine.execRorAbsX w s
  -- Branches, flags, NOP (46_branch_flag.md)
  | .bpl d => Sys2Proof.Machine.execBpl d s
  | .bmi d => Sys2Proof.Machine.execBmi d s
  | .bvc d => Sys2Proof.Machine.execBvc d s
  | .bvs d => Sys2Proof.Machine.execBvs d s
  | .bcc d => Sys2Proof.Machine.execBcc d s
  | .bcs d => Sys2Proof.Machine.execBcs d s
  | .bne d => Sys2Proof.Machine.execBne d s
  | .beq d => Sys2Proof.Machine.execBeq d s
  | .clc => Sys2Proof.Machine.execClc s
  | .sec => Sys2Proof.Machine.execSec s
  | .cli => Sys2Proof.Machine.execCli s
  | .sei => Sys2Proof.Machine.execSei s
  | .clv => Sys2Proof.Machine.execClv s
  | .cld => Sys2Proof.Machine.execCld s
  | .sed => Sys2Proof.Machine.execSed s
  | .nop => Sys2Proof.Machine.execNop s

end Sys2Proof.Machine
end

