-- ==== Sys2Proof/Machine/Step.lean ====
section
/-! DEFINITION. One instruction step of the core (30_encoding.md R82), and the host's placing of an instruction at PC. -/

namespace Sys2Proof.Machine

/-- One step (30_encoding.md R82): the opcode byte at PC is dispatched; a byte with no handler is a decode failure
(60_exceptions.md R170), any other instruction runs its meaning. With the HALT policy's latch set nothing runs until reset
(10_state.md R41; log entry 3). -/
def step (s : State) : Host.Outcome State Fault Refusal :=
  if s.latched then .fault .halted
  else
    match decode s.config.instructionSet s.fetchBytes with
    | .ok (i, _) => exec i s
    | .error _ => .next s.takeDecodeFailure

/-- The state with a table word stored at PC, where the next step fetches, and the latch clear so that the step fetches: the
host's out-of-band program load (70_reset_and_hazards.md R198, R201; log entry 4). -/
def State.withFetchWord (s : State) (nbits w : Nat) : State :=
  { s.setBytes s.pc (tableWordBytes nbits w) with halted := false }

end Sys2Proof.Machine
end

