-- ==== Sys2Proof/Machine/Execute.lean ====
section
/-! DEFINITION. The host interface (70_reset_and_hazards.md R199 to R201, R206, R207): reset, memory and register access between
calls, and the execute loop. `State.flag` and `State.setFlag` are `get_flag` and `set_flag`; `State.byteAt` and `State.setByte`
are `read` and `write`; `State.p` and `State.setP` are `flags_byte` and `set_flags_byte`. -/

namespace Sys2Proof.Machine

/-- `reset()` (R196): every field at its reset value, the parameters kept. -/
def State.hostReset (s : State) : State := State.resetWith s.config

/-- `zero_fill()` (20_memory.md R46). -/
def State.zeroFill (s : State) : State := { s with mem := [] }

/-- The registers of the host's raw byte accessors (R199). -/
inductive Reg where
  | a | x | y | sp
  deriving DecidableEq, Repr

/-- The host's raw read of a byte register (R199, R201). -/
def State.reg (s : State) : Reg → Byte
  | .a => s.a
  | .x => s.x
  | .y => s.y
  | .sp => s.sp

/-- The host's raw write of a byte register (R199, R201); PC's is `State.setPc`. -/
def State.setReg (s : State) : Reg → Byte → State
  | .a, v => s.setA v
  | .x, v => s.setX v
  | .y, v => s.setY v
  | .sp, v => s.setSp v

/-- How a call ended (R206): `ok`, or `refused(X)`. -/
inductive CallOutcome where
  | ok
  | refused (r : Refusal)
  deriving DecidableEq, Repr

/-- What a call returns (R206), and the state it leaves. After `refused` the spec gives no successor state; the state here is
the one the refused step began in (DESIGN CHOICE, log entry 7: safe). -/
structure CallReturn where
  consumed : Nat
  reports : List DecodeFailure
  outcome : CallOutcome
  state : State
  deriving DecidableEq, Repr

/-- Whether the engine is Running: the call's budget is not used up (10_state.md R43). -/
def State.running (s : State) : Bool := decide (s.consumed < s.budget)

/-- The call's own state at its start (R207). -/
def State.beginCall (s : State) (budget : Nat) : State := { s with budget := budget, consumed := 0, reports := [] }

/-- Between calls the call's own state does not exist (10_state.md R43; log entry 2). -/
def State.endCall (s : State) : State := { s with budget := 0, consumed := 0, reports := [] }

/-- The while loop of `execute` (R207), for at most the given number of turns. A step answers a fault only with the latch set,
where the loop breaks. -/
def callLoop : Nat → State → CallOutcome × State
  | 0, s => (.ok, s)
  | turns + 1, s =>
    if s.running then
      match step s with
      | .next t => callLoop turns t
      | .fault _ => (.ok, s)
      | .refused r => (.refused r, s)
    else (.ok, s)

/-- `execute(memory, cycle_budget)` (R207). Each step costs at least one cycle, so the loop turns at most `budget` times
(DEDUCED, log entry 8: safe). -/
def execute (budget : Nat) (s : State) : CallReturn :=
  let ended := callLoop budget (s.beginCall budget)
  ⟨ended.2.consumed, ended.2.reports, ended.1, ended.2.endCall⟩

end Sys2Proof.Machine
end

