-- ==== Sys2Proof/Safety.lean ====
section
/-! DEFINITION. What claims take for a good state and a good run: the invariant of the reachable states, and runs that meet no
refusal and no latch (60_exceptions.md R172: a claim about a program takes as a premise that no refusal is reached). -/

namespace Sys2Proof.Machine

/-- The invariant: memory is in its canonical form, and the latch is set only under the HALT policy, where it exists
(10_state.md R41). -/
structure State.Inv (s : State) : Prop where
  memory : s.mem.wf
  latch : s.halted = true → s.config.unknownOpcode = .halt

/-- The instruction whose bytes stand at PC, if the opcode byte has a handler. -/
def State.fetched (s : State) : Option Instr :=
  match decode s.config.instructionSet s.fetchBytes with
  | .ok (i, _) => some i
  | .error _ => none

/-- The machine runs n steps from s without a refusal or the latch. -/
def RunsSafely (n : Nat) (s : State) : Prop := ∃ t, Sys2Proof.core.run n s = .next t

/-- t is reached from s by some number of steps. -/
def Reaches (s t : State) : Prop := ∃ n, Sys2Proof.core.run n s = .next t

end Sys2Proof.Machine
end

