-- ==== Sys2Proof/Certificates/Slice0/Obligations.lean ====
section
/-! DEFINITION. The statements for the provers. The helpers first: the spec's tables and the words the statements share. Every
register, flag, byte of memory and field an instruction does not write is in its statement's conclusion. -/

namespace Sys2Proof.Machine

/-- The mnemonic has exactly these (addressing mode, opcode byte) rows: no form is missing and none is added. -/
def HasRows (m : Mnemonic) (rows : List (ModeName × Byte)) : Prop :=
  (∀ i : Instr, i.mnemonic = m → (i.mode.name, i.opcode) ∈ rows) ∧
    ∀ r ∈ rows, ∃ i : Instr, i.mnemonic = m ∧ i.mode.name = r.1 ∧ i.opcode = r.2

/-- Every byte of memory reads as before. -/
def SameMemory (s t : State) : Prop := ∀ k : Addr, t.byteAt k = s.byteAt k

/-- The byte at one address is v, and every other byte reads as before. -/
def OneByteWritten (s t : State) (ea : Addr) (v : Byte) : Prop :=
  t.byteAt ea = v ∧ ∀ k : Addr, k ≠ ea → t.byteAt k = s.byteAt k

/-- A, X, Y, SP and PC hold these values. -/
def RegistersAre (t : State) (a x y sp : Byte) (pc : Addr) : Prop :=
  t.a = a ∧ t.x = x ∧ t.y = y ∧ t.sp = sp ∧ t.pc = pc

/-- Every flag but the listed ones is unchanged. -/
def FlagsKept (written : List Flag) (s t : State) : Prop := ∀ f : Flag, f ∉ written → t.flag f = s.flag f

/-- Z and N are those of v: `SetZN(v)` (10_state.md R36). -/
def ZNOf (v : Byte) (t : State) : Prop := (t.flag .z = true ↔ v.toNat = 0) ∧ t.flag .n = v.getLsbD 7

/-- The latch, the call's budget and reports, and the parameters are unchanged. -/
def EngineKept (s t : State) : Prop :=
  t.halted = s.halted ∧ t.budget = s.budget ∧ t.reports = s.reports ∧ t.config = s.config

/-- The read-class mnemonics that have indexed forms (70_reset_and_hazards.md R204). -/
def pageClassMnemonics : List Mnemonic := [.lda, .ldx, .ldy, .and, .eor, .ora, .adc, .sbc, .cmp]

/-- The eight conditional branches (46_branch_flag.md R139). -/
def branchMnemonics : List Mnemonic := [.bpl, .bmi, .bvc, .bvs, .bcc, .bcs, .bne, .beq]

/-- The penalty class of a row (70_reset_and_hazards.md R204). -/
def specPenalty (m : Mnemonic) (mode : ModeName) : PenaltyClass :=
  if m ∈ branchMnemonics then .branch
  else if m ∈ pageClassMnemonics ∧ mode ∈ [ModeName.absoluteX, .absoluteY, .indirectY] then .page
  else .fixed

/-- The step cost its opcode's base and no penalty, whatever the cycle table (70_reset_and_hazards.md R203). -/
def CostsBase (i : Instr) (s t : State) : Prop := t.consumed = s.consumed + baseCost s.config i.opcode


/-- With the penalty class of R204, which the default table gives, the step cost its opcode's base and this penalty
(70_reset_and_hazards.md R203, R204; that the class is a parameter too is log entry 5). -/
def CostsWith (penalty : Nat) (i : Instr) (s t : State) : Prop :=
  penaltyClass s.config i.opcode = specPenalty i.mnemonic i.mode.name →
    t.consumed = s.consumed + baseCost s.config i.opcode + penalty

/-- The address after the instruction, modulo 65536 (10_state.md R25). -/
def nextPc (i : Instr) (s : State) : Addr := s.pc + BitVec.ofNat 16 i.length

/-- The value `Operand(mode)` returns: the immediate byte, or the byte of memory at the effective address (30_encoding.md R78). -/
def specOperand (s : State) : Source → Byte
  | .immediate b => b
  | .memory mode => s.byteAt (resolve s mode).ea

/-- Whether `Operand(mode)` adds the page-cross cycle: when the effective address crossed (30_encoding.md R78). -/
def specCrossed (s : State) : Source → Bool
  | .immediate _ => false
  | .memory mode => (resolve s mode).crossed

/-- The rule of a read-class instruction: in every form it completes; `result s v t` says what it leaves, v the operand's value;
SP, memory and the rest are unchanged; a page cross costs one cycle (30_encoding.md R78). -/
def ReadClassRule (m : Mnemonic) (rows : List (ModeName × Byte)) (result : State → Byte → State → Prop) : Prop :=
  HasRows m rows ∧
    ∀ (i : Instr) (s : State) (src : Source), i.mnemonic = m → i.mode = .source src →
      ∃ t, exec i s = .next t ∧ result s (specOperand s src) t ∧ t.sp = s.sp ∧ t.pc = nextPc i s ∧
        SameMemory s t ∧ EngineKept s t ∧ CostsWith (bitValue (specCrossed s src)) i s t

/-- The rule of a store: in every form it completes, the register's byte is at the effective address, and everything else is
unchanged, at the fixed cost. -/
def StoreRule (m : Mnemonic) (rows : List (ModeName × Byte)) (register : State → Byte) : Prop :=
  HasRows m rows ∧
    ∀ (i : Instr) (s : State) (mode : MemMode), i.mnemonic = m → i.mode = .source (.memory mode) →
      ∃ t, exec i s = .next t ∧ OneByteWritten s t (resolve s mode).ea (register s) ∧
        RegistersAre t s.a s.x s.y s.sp (nextPc i s) ∧ t.p = s.p ∧ EngineKept s t ∧ CostsBase i s t

/-- The rule of a shift or rotate, in the accumulator form and every memory form: the new byte from the old byte and carry, the
new carry from the old byte, Z and N of the new byte. -/
def ShiftRule (m : Mnemonic) (rows : List (ModeName × Byte)) (value : Nat → Nat → Nat) (carryBit : Nat) : Prop :=
  HasRows m rows ∧
    (∀ (i : Instr) (s : State), i.mnemonic = m → i.mode = .accumulator →
      ∃ t r, exec i s = .next t ∧ r.toNat = value s.a.toNat (bitValue (s.flag .c)) ∧
        RegistersAre t r s.x s.y s.sp (nextPc i s) ∧ SameMemory s t ∧ t.flag .c = s.a.getLsbD carryBit ∧ ZNOf r t ∧
        FlagsKept [.c, .z, .n] s t ∧ EngineKept s t ∧ CostsBase i s t) ∧
    ∀ (i : Instr) (s : State) (mode : MemMode), i.mnemonic = m → i.mode = .source (.memory mode) →
      ∃ t r, exec i s = .next t ∧ r.toNat = value (s.byteAt (resolve s mode).ea).toNat (bitValue (s.flag .c)) ∧
        OneByteWritten s t (resolve s mode).ea r ∧ RegistersAre t s.a s.x s.y s.sp (nextPc i s) ∧
        t.flag .c = (s.byteAt (resolve s mode).ea).getLsbD carryBit ∧ ZNOf r t ∧
        FlagsKept [.c, .z, .n] s t ∧ EngineKept s t ∧ CostsBase i s t

/-- The rule of INC and DEC: the byte at the effective address becomes `value` of it. -/
def ModifyRule (m : Mnemonic) (rows : List (ModeName × Byte)) (value : Nat → Nat) : Prop :=
  HasRows m rows ∧
    ∀ (i : Instr) (s : State) (mode : MemMode), i.mnemonic = m → i.mode = .source (.memory mode) →
      ∃ t r, exec i s = .next t ∧ r.toNat = value (s.byteAt (resolve s mode).ea).toNat ∧
        OneByteWritten s t (resolve s mode).ea r ∧ RegistersAre t s.a s.x s.y s.sp (nextPc i s) ∧ ZNOf r t ∧
        FlagsKept [.z, .n] s t ∧ EngineKept s t ∧ CostsBase i s t

/-- The rule of a branch on flag f having the value (46_branch_flag.md R139): taken or not, only PC and the cost depend on it. -/
def BranchRule (m : Mnemonic) (op : Byte) (f : Flag) (value : Bool) : Prop :=
  HasRows m [(.relative, op)] ∧
    ∀ (i : Instr) (s : State) (d : Byte), i.mnemonic = m → i.mode = .relative d →
      ∃ t, exec i s = .next t ∧
        (s.flag f = value → (t.pc.toNat : Int) = (s.pc.toNat + 2 + d.toInt) % 65536 ∧
          CostsWith (if t.pc.toNat / 256 = (s.pc + 2).toNat / 256 then 1 else 2) i s t) ∧
        (s.flag f ≠ value → t.pc = s.pc + 2 ∧ CostsBase i s t) ∧
        t.a = s.a ∧ t.x = s.x ∧ t.y = s.y ∧ t.sp = s.sp ∧ t.p = s.p ∧ SameMemory s t ∧ EngineKept s t

/-- The rule of an implied instruction that leaves memory alone: its one row, and what it leaves. -/
def ImpliedRule (m : Mnemonic) (op : Byte) (result : State → State → Prop) : Prop :=
  HasRows m [(.implied, op)] ∧
    ∀ (i : Instr) (s : State), i.mnemonic = m →
      ∃ t, exec i s = .next t ∧ result s t ∧ t.pc = s.pc + 1 ∧ SameMemory s t ∧ EngineKept s t ∧ CostsBase i s t

/-- The rule of a flag instruction: one flag is written. -/
def FlagRule (m : Mnemonic) (op : Byte) (f : Flag) (value : Bool) : Prop :=
  ImpliedRule m op fun s t =>
    t.flag f = value ∧ FlagsKept [f] s t ∧ t.a = s.a ∧ t.x = s.x ∧ t.y = s.y ∧ t.sp = s.sp

/-- ADC's outcome for the addends A and w: the unbounded sum decides the result, C and V (44_arith_compare.md R124, R125). -/
def AddsWithCarry (s : State) (w : Byte) (t : State) : Prop :=
  t.a.toNat = (s.a.toNat + w.toNat + bitValue (s.flag .c)) % 256 ∧
    t.flag .c = decide (0xFF < s.a.toNat + w.toNat + bitValue (s.flag .c)) ∧
    t.flag .v = ((s.a ^^^ t.a) &&& (w ^^^ t.a)).getLsbD 7 ∧ ZNOf t.a t ∧ FlagsKept [.c, .v, .z, .n] s t ∧
    t.x = s.x ∧ t.y = s.y

/-- A compare's outcome for a register (44_arith_compare.md R126 to R128). -/
def Compares (s : State) (register v : Byte) (t : State) : Prop :=
  t.flag .c = decide (register.toNat ≥ v.toNat) ∧ ZNOf (register - v) t ∧ FlagsKept [.c, .z, .n] s t ∧
    t.a = s.a ∧ t.x = s.x ∧ t.y = s.y

/-- The instructions that write each flag (10_state.md R28 to R35). -/
def flagWriters : Flag → List Mnemonic
  | .c => [.adc, .sbc, .cmp, .cpx, .cpy, .asl, .lsr, .rol, .ror, .clc, .sec, .plp]
  | .z | .n => [.lda, .ldx, .ldy, .tax, .tay, .txa, .tya, .tsx, .pla, .and, .eor, .ora, .adc, .sbc, .cmp, .cpx, .cpy, .inc,
      .dec, .inx, .iny, .dex, .dey, .asl, .lsr, .rol, .ror, .bit, .plp]
  | .i => [.cli, .sei, .plp]
  | .d => [.cld, .sed, .plp]
  | .b | .u => [.plp]
  | .v => [.bit, .adc, .sbc, .clv, .plp]

/-- Whether a branch's condition holds (46_branch_flag.md R140 to R147). -/
def branchTaken (m : Mnemonic) (s : State) : Bool :=
  match m with
  | .bpl => !s.flag .n
  | .bmi => s.flag .n
  | .bvc => !s.flag .v
  | .bvs => s.flag .v
  | .bcc => !s.flag .c
  | .bcs => s.flag .c
  | .bne => !s.flag .z
  | .beq => s.flag .z
  | _ => false

/-- The base cost of a row, read down the columns of 70_reset_and_hazards.md R205. -/
def specBaseCost (m : Mnemonic) (mode : ModeName) : Nat :=
  match m with
  | .jsr | .rts => 6
  | .jmp => if mode = .indirect then 5 else 3
  | .pha | .php => 3
  | .pla | .plp => 4
  | .inc | .dec | .asl | .lsr | .rol | .ror =>
    match mode with
    | .accumulator => 2
    | .zeroPage => 5
    | .absoluteX => 7
    | _ => 6
  | .sta | .stx | .sty =>
    match mode with
    | .zeroPage => 3
    | .zeroPageX | .zeroPageY | .absolute => 4
    | .absoluteX | .absoluteY => 5
    | _ => 6
  | _ =>
    match mode with
    | .zeroPage => 3
    | .zeroPageX | .zeroPageY | .absolute | .absoluteX | .absoluteY => 4
    | .indirectX => 6
    | .indirectY => 5
    | _ => 2

/-- The byte values with no handler in either profile (30_encoding.md R87). -/
def unhandledBytes : List Byte :=
  [0x00, 0x02, 0x03, 0x04, 0x07, 0x0B, 0x0C, 0x0F, 0x12, 0x13, 0x14, 0x17, 0x1A, 0x1B, 0x1C, 0x1F, 0x22, 0x23, 0x27, 0x2B,
   0x2F, 0x32, 0x33, 0x34, 0x37, 0x3A, 0x3B, 0x3C, 0x3F, 0x40, 0x42, 0x43, 0x44, 0x47, 0x4B, 0x4F] ++
  [0x52, 0x53, 0x54, 0x57, 0x5A, 0x5B, 0x5C, 0x5F, 0x62, 0x63, 0x64, 0x67, 0x6B, 0x6F, 0x72, 0x73, 0x74, 0x77, 0x7A, 0x7B,
   0x7C, 0x7F, 0x80, 0x82, 0x83, 0x87, 0x89, 0x8B, 0x8F, 0x92, 0x93, 0x97, 0x9B, 0x9C, 0x9E, 0x9F] ++
  [0xA3, 0xA7, 0xAB, 0xAF, 0xB2, 0xB3, 0xB7, 0xBB, 0xBF, 0xC2, 0xC3, 0xC7, 0xCB, 0xCF, 0xD2, 0xD3, 0xD4, 0xD7, 0xDA, 0xDB,
   0xDC, 0xDF, 0xE2, 0xE3, 0xE7, 0xEB, 0xEF, 0xF2, 0xF3, 0xF4, 0xF7, 0xFA, 0xFB, 0xFC, 0xFF]

/-- The state with the current call's own fields replaced. -/
def State.withCall (s : State) (budget consumed : Nat) (reports : List DecodeFailure) : State :=
  { s with budget := budget, consumed := consumed, reports := reports }

/-- The state with another cycle table and cycle count. -/
def State.withCycles (s : State) (overrides : List CycleRow) (consumed : Nat) : State :=
  { s with config := { s.config with cycleOverrides := overrides }, consumed := consumed }

end Sys2Proof.Machine

open Sys2Proof Sys2Proof.Machine

/-! ### Encoding -/

/-- Decoding an encoded well-formed instruction gives it back, with every operand value, and leaves the bytes after it
(30_encoding.md R62, R64, R81, R85). -/
def Obligations.DecodeOfEncode : Prop :=
  ∀ (set : InstructionSet) (i : Instr) (rest : List Byte), i.wf set = true → decode set (encode i ++ rest) = .ok (i, rest)

/-- What decodes is the encoding of what it decodes to, which is well-formed: no bit is ignored (30_encoding.md R64, R81, R88). -/
def Obligations.EncodeOfDecode : Prop :=
  ∀ (set : InstructionSet) (bytes rest : List Byte) (i : Instr), decode set bytes = .ok (i, rest) →
    bytes = encode i ++ rest ∧ i.wf set = true

/-- R83: the opcode table is a bijection between the handled bytes and the (mnemonic, mode) pairs; 107 bytes have no pair. -/
def Obligations.OpcodeTableIsBijective : Prop :=
  (∀ i j : Instr, i.opcode = j.opcode ↔ i.mnemonic = j.mnemonic ∧ i.mode.name = j.mode.name) ∧
    (∀ op : Byte, (∃ i : Instr, i.opcode = op) ↔ (dispatch .full op).isSome = true) ∧
    (List.range 256).countP (fun n => (dispatch .full (BitVec.ofNat 8 n)).isNone) = 107

/-- R63 with R62's formats: the opcode byte fixes the addressing mode and so the length; no flag changes decoding. -/
def Obligations.OpcodeFixesLength : Prop :=
  (∀ i j : Instr, i.opcode = j.opcode → i.length = j.length ∧ i.mode.name = j.mode.name) ∧
    (∀ (s : State) (p : Byte), (s.setP p).fetched = s.fetched) ∧
    ∀ i : Instr, i.length =
      match i.mode.name with
      | .implied | .accumulator => 1
      | .absolute | .absoluteX | .absoluteY | .indirect => 3
      | .immediate | .zeroPage | .zeroPageX | .zeroPageY | .indirectX | .indirectY | .relative => 2

/-- R87: the 107 bytes have no handler in either profile, under DOC the FULL opcodes have none either, and fetching a byte with
no handler is a decode failure: the step takes that exception and runs no instruction. -/
def Obligations.UnhandledBytesFailToDecode : Prop :=
  (∀ op : Byte, dispatch .full op = none ↔ op ∈ unhandledBytes) ∧
    (∀ op : Byte, dispatch .doc op = none ↔
      op ∈ unhandledBytes ∨ ∃ i : Instr, i.opcode = op ∧ i.mnemonic.profile = .full) ∧
    ∀ s : State, s.latched = false → dispatch s.config.instructionSet (s.byteAt s.pc) = none →
      step s = .next s.takeDecodeFailure

/-- R86: the source's own seven rows, with every operand, in both profiles. -/
def Obligations.SourceOpcodeRowsDecode : Prop :=
  ∀ (set : InstructionSet) (b l h : Byte) (rest : List Byte),
    decode set (0xA9 :: b :: rest) = .ok (.ldaImm b, rest) ∧
    decode set (0xAD :: l :: h :: rest) = .ok (.ldaAbs (joinBytes h l), rest) ∧
    decode set (0x85 :: b :: rest) = .ok (.staZp b, rest) ∧
    decode set (0x20 :: l :: h :: rest) = .ok (.jsr (joinBytes h l), rest) ∧
    decode set (0x60 :: rest) = .ok (.rts, rest) ∧
    decode set (0x29 :: b :: rest) = .ok (.andImm b, rest) ∧
    decode set (0x24 :: b :: rest) = .ok (.bitZp b, rest)

/-! ### The step -/

/-- When the bytes at PC decode to an instruction and the latch is not set, the step is the instruction's meaning at that state;
the meaning itself moves PC past the instruction's bytes (30_encoding.md R82; log entry 6). -/
def Obligations.StepRunsDecodedInstruction : Prop :=
  ∀ (s : State) (i : Instr) (rest : List Byte), s.latched = false →
    decode s.config.instructionSet s.fetchBytes = .ok (i, rest) → step s = exec i s

/-- When an instruction's bytes stand at PC, byte k at `(PC + k) mod 65536`, the step runs that instruction (30_encoding.md R62,
R82; 20_memory.md R58: the fetch sees whatever stored the bytes). -/
def Obligations.StepRunsEncodedInstruction : Prop :=
  ∀ (s : State) (i : Instr), s.latched = false → i.wf s.config.instructionSet = true →
    (∀ (k : Nat) (h : k < (encode i).length), s.byteAt (s.pc + BitVec.ofNat 16 k) = (encode i)[k]) →
    step s = exec i s

/-- R170: under LOG_AND_CONTINUE a decode failure reports the opcode and its address, costs one cycle, leaves PC at the next byte
and changes nothing else. -/
def Obligations.DecodeFailureContinues : Prop :=
  ∀ s : State, s.config.unknownOpcode = .logAndContinue →
    dispatch s.config.instructionSet (s.byteAt s.pc) = none →
    step s = .next { s with
      pc := s.pc + 1
      reports := s.reports ++ [⟨s.byteAt s.pc, s.pc⟩]
      consumed := s.consumed + 1 }

/-- R171: under HALT a decode failure also sets the latch; the `execute` call returns after that step, and every later call
returns 0 without a step, until reset clears the latch. (The call's own fields between calls are log entry 2.) -/
def Obligations.DecodeFailureHalts : Prop :=
  ∀ s : State, s.config.unknownOpcode = .halt → s.halted = false →
    dispatch s.config.instructionSet (s.byteAt s.pc) = none →
    let stopped := { s with pc := s.pc + 1, halted := true }
    step s = .next { stopped with
      reports := s.reports ++ [⟨s.byteAt s.pc, s.pc⟩]
      consumed := s.consumed + 1 } ∧
    (∀ budget, 0 < budget →
      execute budget s = ⟨1, [⟨s.byteAt s.pc, s.pc⟩], .ok, stopped.endCall⟩) ∧
    (∀ budget, execute budget stopped.endCall = ⟨0, [], .ok, stopped.endCall⟩) ∧
    stopped.hostReset.halted = false

/-- The abnormal steps. E1 and X1 are the list of 60_exceptions.md section 1: a step reports its opcode byte and address exactly
when that byte has no handler, and is refused exactly at an ADC or SBC with D = 1 under DECIMAL_MODE = REFUSE, naming the opcode
and its address. The fault `halted`, which is not on that list, is the model's choice (log entry 3): a step answers it exactly when
the latch is set, under HALT. -/
def Obligations.AbnormalStepsAreComplete : Prop :=
  ∀ s : State,
    ((∃ t, step s = .next t ∧ t.reports = s.reports ++ [⟨s.byteAt s.pc, s.pc⟩]) ↔
      s.latched = false ∧ dispatch s.config.instructionSet (s.byteAt s.pc) = none) ∧
    (∀ t, step s = .next t → t.reports = s.reports ∨ t.reports = s.reports ++ [⟨s.byteAt s.pc, s.pc⟩]) ∧
    (∀ r, step s = .refused r ↔
      s.latched = false ∧ s.flag .d = true ∧ s.config.decimalMode = .refuse ∧
        (∃ i, s.fetched = some i ∧ i.mnemonic ∈ [Mnemonic.adc, .sbc]) ∧ r = .decimalArithmetic (s.byteAt s.pc) s.pc) ∧
    ∀ r, step s = .fault r ↔ s.latched = true ∧ r = .halted

/-! ### Invariants and whole-machine rules -/

/-- The invariant holds after reset, whatever the parameters. -/
def Obligations.InvariantHoldsAtReset : Prop :=
  State.reset.Inv ∧ (∀ c : Config, (State.resetWith c).Inv) ∧ ∀ s : State, s.hostReset.Inv

/-- Every step keeps the invariant: memory stays in its canonical form, and the latch is set only under HALT (10_state.md R41). -/
def Obligations.StepKeepsInvariant : Prop :=
  ∀ s t : State, s.Inv → step s = .next t → t.Inv

/-- A step never changes the parameters or the call's budget, costs at least 1 cycle and, under the default cycle table, at most 7,
and reports nothing but its own decode failure (10_state.md R42 to R44; 70_reset_and_hazards.md R203, R205, R208). That it costs at
least 1 under every cycle table, where a base of 0 counts as 1, is the model's choice (log entry 5). -/
def Obligations.StepKeepsEngineState : Prop :=
  ∀ s t : State, step s = .next t →
    t.config = s.config ∧ t.budget = s.budget ∧ s.consumed + 1 ≤ t.consumed ∧
    (s.config.cycleOverrides = [] → t.consumed ≤ s.consumed + 7) ∧
    t.reports = s.reports ++
      (if (dispatch s.config.instructionSet (s.byteAt s.pc)).isNone then [⟨s.byteAt s.pc, s.pc⟩] else [])

/-- No instruction reads the cycle count, the budget or the report stream: a step from a state that differs only in them gives the
same state but for them, adds the same cost and the same reports, or stops in the same way (10_state.md R42, R43;
60_exceptions.md R181). -/
def Obligations.StepNeverReadsCallState : Prop :=
  ∀ (s : State) (budget consumed : Nat) (reports : List DecodeFailure),
    (∀ t, step s = .next t → ∃ cost events, t.consumed = s.consumed + cost ∧ t.reports = s.reports ++ events ∧
      step (s.withCall budget consumed reports) = .next (t.withCall budget (consumed + cost) (reports ++ events))) ∧
    (∀ r, step s = .fault r → step (s.withCall budget consumed reports) = .fault r) ∧
    ∀ r, step s = .refused r → step (s.withCall budget consumed reports) = .refused r

/-- R213: what a step computes does not depend on the cycle table: with another table the step gives the same state but for the
cycle count, or stops in the same way. -/
def Obligations.StepNeverDependsOnCycleTable : Prop :=
  ∀ (s : State) (overrides : List CycleRow),
    (∀ t, step s = .next t → ∃ n, step (s.withCycles overrides s.consumed) = .next (t.withCycles overrides n)) ∧
    (∀ r, step s = .fault r → step (s.withCycles overrides s.consumed) = .fault r) ∧
    ∀ r, step s = .refused r → step (s.withCycles overrides s.consumed) = .refused r

/-- Only the instructions 10_state.md R28 to R35 name write a flag; B and U change only by PLP. -/
def Obligations.FlagsHaveOnlyTheirWriters : Prop :=
  ∀ (i : Instr) (s t : State) (f : Flag), exec i s = .next t → t.flag f ≠ s.flag f → i.mnemonic ∈ flagWriters f

/-- Only the instructions 10_state.md R21 to R25 name write A, X, Y or SP, and only a control transfer leaves PC anywhere but at the
next instruction. -/
def Obligations.RegistersHaveOnlyTheirWriters : Prop :=
  ∀ (i : Instr) (s t : State), exec i s = .next t →
    (t.a ≠ s.a → i.mnemonic ∈ [Mnemonic.lda, .txa, .tya, .pla, .and, .eor, .ora, .adc, .sbc] ∨
      (i.mnemonic ∈ [Mnemonic.asl, .lsr, .rol, .ror] ∧ i.mode = .accumulator)) ∧
    (t.x ≠ s.x → i.mnemonic ∈ [Mnemonic.ldx, .tax, .tsx, .inx, .dex]) ∧
    (t.y ≠ s.y → i.mnemonic ∈ [Mnemonic.ldy, .tay, .iny, .dey]) ∧
    (t.sp ≠ s.sp → i.mnemonic ∈ [Mnemonic.txs, .pha, .php, .pla, .plp, .jsr, .rts]) ∧
    (t.pc ≠ nextPc i s → i.mnemonic ∈ [Mnemonic.jmp, .jsr, .rts] ++ branchMnemonics)

/-- Only stores, pushes, JSR and the memory forms of the read-modify-write instructions change a byte of memory, and a pull, a load
or a branch never does (20_memory.md R49, R60). -/
def Obligations.MemoryHasOnlyItsWriters : Prop :=
  ∀ (i : Instr) (s t : State) (k : Addr), exec i s = .next t → t.byteAt k ≠ s.byteAt k →
    i.mnemonic ∈ [Mnemonic.sta, .stx, .sty, .pha, .php, .jsr, .inc, .dec] ∨
      (i.mnemonic ∈ [Mnemonic.asl, .lsr, .rol, .ror] ∧ i.mode ≠ .accumulator)

/-! ### Reset, memory, flags -/

/-- R196: what reset leaves, whatever the state before it; no cycle is counted and nothing reported; the default reset vector is
0xFFFC. -/
def Obligations.ResetWritesWholeState : Prop :=
  (∀ s : State, RegistersAre s.hostReset 0x00 0x00 0x00 0xFF s.config.resetVector ∧ s.hostReset.p = 0x00 ∧
    (∀ f : Flag, s.hostReset.flag f = false) ∧ (∀ k : Addr, s.hostReset.byteAt k = 0x00) ∧ s.hostReset.halted = false ∧
    s.hostReset.consumed = 0 ∧ s.hostReset.reports = [] ∧ s.hostReset.config = s.config) ∧
    State.reset.hostReset = State.reset ∧ State.reset.pc = 0xFFFC

/-- R46: a store is read back until the next store to its address and touches no other byte and no register; a 16-bit read is two
byte reads, low byte first, the second address modulo 65536; zero-fill clears every byte and no register. -/
def Obligations.MemoryPrimitives : Prop :=
  ∀ (s : State) (addr : Addr) (v : Byte),
    OneByteWritten s (s.setByte addr v) addr v ∧
    RegistersAre (s.setByte addr v) s.a s.x s.y s.sp s.pc ∧ (s.setByte addr v).p = s.p ∧ EngineKept s (s.setByte addr v) ∧
    (s.wordAt addr).toNat = (s.byteAt addr).toNat + 256 * (s.byteAt (BitVec.ofNat 16 ((addr.toNat + 1) % 65536))).toNat ∧
    s.zeroFill.byteAt addr = 0x00 ∧ RegistersAre s.zeroFill s.a s.x s.y s.sp s.pc ∧ s.zeroFill.p = s.p ∧ EngineKept s s.zeroFill

/-- R26: P packs the eight flags in the order N V U B D I Z C, and all eight bits are storage. -/
def Obligations.StatusBytePacksFlags : Prop :=
  ∀ (s : State) (v : Byte) (f g : Flag) (b : Bool),
    s.p.toNat = 128 * bitValue (s.flag .n) + 64 * bitValue (s.flag .v) + 32 * bitValue (s.flag .u) +
      16 * bitValue (s.flag .b) + 8 * bitValue (s.flag .d) + 4 * bitValue (s.flag .i) + 2 * bitValue (s.flag .z) +
      bitValue (s.flag .c) ∧
    (s.setFlag f b).flag g = (if g = f then b else s.flag g) ∧ (s.setP v).p = v

/-! ### The stack -/

/-- R52 and R53: a push writes at `0x0100 + SP` and then decrements SP; a pull increments SP and then reads; both modulo 256. A
pull after a push gives the pushed byte. -/
def Obligations.PushThenPull : Prop :=
  ∀ (s : State) (v : Byte),
    (s.push v).sp.toNat = (s.sp.toNat + 255) % 256 ∧
    (∀ k : Addr, (s.push v).byteAt k = if k.toNat = 0x0100 + s.sp.toNat then v else s.byteAt k) ∧
    s.pull.2.sp.toNat = (s.sp.toNat + 1) % 256 ∧
    s.pull.1 = s.byteAt (BitVec.ofNat 16 (0x0100 + (s.sp.toNat + 1) % 256)) ∧ SameMemory s s.pull.2 ∧
    (s.push v).pull.1 = v ∧ (s.push v).pull.2.sp = s.sp

/-- R54: after `Push16(w)`, SP has decreased by 2, the low byte is at `0x0100 + (SP + 1) mod 256` and the high byte at
`0x0100 + (SP + 2) mod 256`, SP the new one. -/
def Obligations.Push16Layout : Prop :=
  ∀ (s : State) (w : Addr), (s.push16 w).sp.toNat = (s.sp.toNat + 254) % 256 ∧
    (s.push16 w).byteAt (BitVec.ofNat 16 (0x0100 + ((s.push16 w).sp.toNat + 1) % 256)) = loByte w ∧
    (s.push16 w).byteAt (BitVec.ofNat 16 (0x0100 + ((s.push16 w).sp.toNat + 2) % 256)) = hiByte w ∧
    ∀ k : Addr, k ≠ stackAddr s.sp → k ≠ stackAddr (s.sp - 1) → (s.push16 w).byteAt k = s.byteAt k

/-- `Pull16()` right after `Push16(w)` returns w and restores SP (the spec's own inference, 20_memory.md R55). -/
def Obligations.Pull16OfPush16 : Prop :=
  ∀ (s : State) (w : Addr), (s.push16 w).pull16.1 = w ∧ (s.push16 w).pull16.2.sp = s.sp

/-- The JSR/RTS round trip (the spec's own inference, 43_control.md R123): an RTS run in any state whose SP and whose two stacked
bytes are those the JSR left returns to the address after the JSR and restores SP. -/
def Obligations.JsrRtsRoundTrip : Prop :=
  ∀ (s : State) (w : Addr), ∃ t, exec (.jsr w) s = .next t ∧
    ∀ u : State, u.sp = t.sp → (∀ n ∈ [s.sp, s.sp - 1], u.byteAt (stackAddr n) = t.byteAt (stackAddr n)) →
      ∃ r, exec .rts u = .next r ∧ r.pc = s.pc + 3 ∧ r.sp = s.sp

/-- PHP and PLP restore the whole status byte, B and U included (41_transfer_stack.md R113, R115): a PLP run in any state whose SP
and whose stacked byte are those the PHP left brings P and SP back. -/
def Obligations.PhpPlpRoundTrip : Prop :=
  ∀ s : State, ∃ t, exec .php s = .next t ∧
    ∀ u : State, u.sp = t.sp → u.byteAt (stackAddr s.sp) = t.byteAt (stackAddr s.sp) →
      ∃ r, exec .plp u = .next r ∧ r.p = s.p ∧ r.sp = s.sp

/-! ### Addressing modes -/

/-- R67 to R70: the immediate operand is the byte itself; the zero-page modes stay in page 0, indexed modulo 256, and never cross.
In every memory mode the operand is the byte at the effective address, and crosses as the address does (R78). -/
def Obligations.ZeroPageModes : Prop :=
  ∀ (s : State) (b : Byte),
    (∀ mode : MemMode, operand s (.memory mode) = s.byteAt (resolve s mode).ea ∧
      operandCrossed s (.memory mode) = (resolve s mode).crossed) ∧
    (operand s (.immediate b) = b ∧ operandCrossed s (.immediate b) = false) ∧
    ((resolve s (.zeroPage b)).ea.toNat = b.toNat ∧ (resolve s (.zeroPage b)).crossed = false) ∧
    ((resolve s (.zeroPageX b)).ea.toNat = (b.toNat + s.x.toNat) % 256 ∧ (resolve s (.zeroPageX b)).crossed = false) ∧
    ((resolve s (.zeroPageY b)).ea.toNat = (b.toNat + s.y.toNat) % 256 ∧ (resolve s (.zeroPageY b)).crossed = false)

/-- R71 to R73: the absolute address is the operand; indexing is modulo 65536, and crosses when the high byte changes. -/
def Obligations.AbsoluteModes : Prop :=
  ∀ (s : State) (w : Addr),
    ((resolve s (.absolute w)).ea = w ∧ (resolve s (.absolute w)).crossed = false) ∧
    ((resolve s (.absoluteX w)).ea.toNat = (w.toNat + s.x.toNat) % 65536 ∧
      ((resolve s (.absoluteX w)).crossed = true ↔ (w.toNat + s.x.toNat) % 65536 / 256 ≠ w.toNat / 256)) ∧
    ((resolve s (.absoluteY w)).ea.toNat = (w.toNat + s.y.toNat) % 65536 ∧
      ((resolve s (.absoluteY w)).crossed = true ↔ (w.toNat + s.y.toNat) % 65536 / 256 ≠ w.toNat / 256))

/-- R74: the indirect mode reads the target's low byte at the pointer and its high byte at the address `JMP_IND_PAGE_WRAP` says. -/
def Obligations.IndirectMode : Prop :=
  ∀ (s : State) (h l : Byte),
    let ptr := joinBytes h l
    let target := (resolve s (.indirect ptr)).ea.toNat
    (s.config.jmpIndPageWrap = true →
      target = (s.byteAt ptr).toNat + 256 * (s.byteAt (joinBytes h (BitVec.ofNat 8 ((l.toNat + 1) % 256)))).toNat) ∧
    (s.config.jmpIndPageWrap = false →
      target = (s.byteAt ptr).toNat + 256 * (s.byteAt (BitVec.ofNat 16 ((ptr.toNat + 1) % 65536))).toNat) ∧
    (resolve s (.indirect ptr)).crossed = false

/-- R76 and R77: the zero-page pointer modes, the pointer's high byte from the address `ZP_PTR_WRAP` says; (indirect,X) indexes the
pointer's address modulo 256, (indirect),Y the pointer modulo 65536, crossing when the high byte changes. -/
def Obligations.ZeroPagePointerModes : Prop :=
  ∀ (s : State) (b : Byte),
    let next (p : Nat) : Nat := if s.config.zpPtrWrap = true then (p + 1) % 256 else p + 1
    let pointer (p : Nat) : Nat :=
      (s.byteAt (BitVec.ofNat 16 p)).toNat + 256 * (s.byteAt (BitVec.ofNat 16 (next p))).toNat
    ((resolve s (.indirectX b)).ea.toNat = pointer ((b.toNat + s.x.toNat) % 256) ∧
      (resolve s (.indirectX b)).crossed = false) ∧
    ((resolve s (.indirectY b)).ea.toNat = (pointer b.toNat + s.y.toNat) % 65536 ∧
      ((resolve s (.indirectY b)).crossed = true ↔
        (pointer b.toNat + s.y.toNat) % 65536 / 256 ≠ pointer b.toNat / 256))

/-! ### Load, store, transfer, stack -/

/-- R100 to R102: LDA, LDX and LDY in every form: the operand goes to the register, Z and N are set from it. -/
def Obligations.LoadsWriteRegisterAndSetZN : Prop :=
  ReadClassRule .lda [(.immediate, 0xA9), (.zeroPage, 0xA5), (.zeroPageX, 0xB5), (.absolute, 0xAD),
        (.absoluteX, 0xBD), (.absoluteY, 0xB9), (.indirectX, 0xA1), (.indirectY, 0xB1)]
      (fun s v t => t.a = v ∧ t.x = s.x ∧ t.y = s.y ∧ ZNOf v t ∧ FlagsKept [.z, .n] s t) ∧
    ReadClassRule .ldx [(.immediate, 0xA2), (.zeroPage, 0xA6), (.zeroPageY, 0xB6), (.absolute, 0xAE),
        (.absoluteY, 0xBE)]
      (fun s v t => t.x = v ∧ t.a = s.a ∧ t.y = s.y ∧ ZNOf v t ∧ FlagsKept [.z, .n] s t) ∧
    ReadClassRule .ldy [(.immediate, 0xA0), (.zeroPage, 0xA4), (.zeroPageX, 0xB4), (.absolute, 0xAC),
        (.absoluteX, 0xBC)]
      (fun s v t => t.y = v ∧ t.a = s.a ∧ t.x = s.x ∧ ZNOf v t ∧ FlagsKept [.z, .n] s t)

/-- R103 to R105: STA, STX and STY in every form: the register's byte goes to the effective address; no flag and no other byte
changes; a page cross costs nothing. -/
def Obligations.StoresWriteOneByte : Prop :=
  StoreRule .sta [(.zeroPage, 0x85), (.zeroPageX, 0x95), (.absolute, 0x8D), (.absoluteX, 0x9D),
        (.absoluteY, 0x99), (.indirectX, 0x81), (.indirectY, 0x91)] State.a ∧
    StoreRule .stx [(.zeroPage, 0x86), (.zeroPageY, 0x96), (.absolute, 0x8E)] State.x ∧
    StoreRule .sty [(.zeroPage, 0x84), (.zeroPageX, 0x94), (.absolute, 0x8C)] State.y

/-- R106 to R111: the transfers; Z and N are those of the byte moved, except that TXS writes no flag. -/
def Obligations.TransfersCopyRegisters : Prop :=
  let flags (v : Byte) (s t : State) : Prop := ZNOf v t ∧ FlagsKept [.z, .n] s t
  ImpliedRule .tax 0xAA (fun s t => t.x = s.a ∧ t.a = s.a ∧ t.y = s.y ∧ t.sp = s.sp ∧ flags s.a s t) ∧
    ImpliedRule .tay 0xA8 (fun s t => t.y = s.a ∧ t.a = s.a ∧ t.x = s.x ∧ t.sp = s.sp ∧ flags s.a s t) ∧
    ImpliedRule .txa 0x8A (fun s t => t.a = s.x ∧ t.x = s.x ∧ t.y = s.y ∧ t.sp = s.sp ∧ flags s.x s t) ∧
    ImpliedRule .tya 0x98 (fun s t => t.a = s.y ∧ t.y = s.y ∧ t.x = s.x ∧ t.sp = s.sp ∧ flags s.y s t) ∧
    ImpliedRule .tsx 0xBA (fun s t => t.x = s.sp ∧ t.sp = s.sp ∧ t.a = s.a ∧ t.y = s.y ∧ flags s.sp s t) ∧
    ImpliedRule .txs 0x9A (fun s t => t.sp = s.x ∧ t.a = s.a ∧ t.x = s.x ∧ t.y = s.y ∧ t.p = s.p)

/-- R112 and R113: PHA pushes A and PHP the stored status byte unmodified; only that stack byte, SP and PC change. -/
def Obligations.PushesWriteStackByte : Prop :=
  let pushes (i : Instr) (v : State → Byte) : Prop := ∀ s : State,
    ∃ t, exec i s = .next t ∧ OneByteWritten s t (stackAddr s.sp) (v s) ∧
      RegistersAre t s.a s.x s.y (s.sp - 1) (s.pc + 1) ∧ t.p = s.p ∧ EngineKept s t ∧ CostsBase i s t
  HasRows .pha [(.implied, 0x48)] ∧ pushes .pha State.a ∧ HasRows .php [(.implied, 0x08)] ∧ pushes .php State.p

/-- R114: PLA increments SP and loads A from the stack byte there; Z and N are those of the byte. -/
def Obligations.PlaPullsAccumulator : Prop :=
  ImpliedRule .pla 0x68 fun s t =>
    t.sp = s.sp + 1 ∧ t.a = s.byteAt (stackAddr (s.sp + 1)) ∧ t.x = s.x ∧ t.y = s.y ∧ ZNOf t.a t ∧ FlagsKept [.z, .n] s t

/-- R115: PLP increments SP and writes all eight flags from the stack byte there. -/
def Obligations.PlpPullsStatus : Prop :=
  ImpliedRule .plp 0x28 fun s t =>
    t.sp = s.sp + 1 ∧ t.p = s.byteAt (stackAddr (s.sp + 1)) ∧ t.a = s.a ∧ t.x = s.x ∧ t.y = s.y

/-! ### Logical, bit test, control -/

/-- R116 to R118: AND, EOR and ORA in every form: the result goes to A, Z and N are set from it. -/
def Obligations.LogicalInstructionsWriteAccumulator : Prop :=
  let writes (r : Byte) (s t : State) : Prop :=
    t.a = r ∧ t.x = s.x ∧ t.y = s.y ∧ ZNOf r t ∧ FlagsKept [.z, .n] s t
  ReadClassRule .and [(.immediate, 0x29), (.zeroPage, 0x25), (.zeroPageX, 0x35), (.absolute, 0x2D),
        (.absoluteX, 0x3D), (.absoluteY, 0x39), (.indirectX, 0x21), (.indirectY, 0x31)]
      (fun s v t => writes (s.a &&& v) s t) ∧
    ReadClassRule .eor [(.immediate, 0x49), (.zeroPage, 0x45), (.zeroPageX, 0x55), (.absolute, 0x4D),
        (.absoluteX, 0x5D), (.absoluteY, 0x59), (.indirectX, 0x41), (.indirectY, 0x51)]
      (fun s v t => writes (s.a ^^^ v) s t) ∧
    ReadClassRule .ora [(.immediate, 0x09), (.zeroPage, 0x05), (.zeroPageX, 0x15), (.absolute, 0x0D),
        (.absoluteX, 0x1D), (.absoluteY, 0x19), (.indirectX, 0x01), (.indirectY, 0x11)]
      (fun s v t => writes (s.a ||| v) s t)

/-- R119: BIT sets Z from the AND, V and N from the operand's own bits 6 and 7, and changes no register but PC. -/
def Obligations.BitTestSetsFlags : Prop :=
  ReadClassRule .bit [(.zeroPage, 0x24), (.absolute, 0x2C)]
    (fun s v t => (t.flag .z = true ↔ (s.a &&& v).toNat = 0) ∧ t.flag .v = v.getLsbD 6 ∧ t.flag .n = v.getLsbD 7 ∧
      FlagsKept [.z, .v, .n] s t ∧ t.a = s.a ∧ t.x = s.x ∧ t.y = s.y)

/-- R120: JMP in both forms puts the effective address in PC and changes nothing else. -/
def Obligations.JumpsWritePc : Prop :=
  HasRows .jmp [(.absolute, 0x4C), (.indirect, 0x6C)] ∧
    ∀ (i : Instr) (s : State) (mode : MemMode), i.mnemonic = .jmp → i.mode = .source (.memory mode) →
      ∃ t, exec i s = .next t ∧ RegistersAre t s.a s.x s.y s.sp (resolve s mode).ea ∧ t.p = s.p ∧ SameMemory s t ∧
        EngineKept s t ∧ CostsBase i s t

/-- R121: JSR pushes the address of its last byte, high byte first, and puts the target in PC; the target is the operand as it was
fetched, whatever the pushes overwrite. -/
def Obligations.JsrPushesReturnAddress : Prop :=
  HasRows .jsr [(.absolute, 0x20)] ∧
    ∀ (s : State) (w : Addr), ∃ t, exec (.jsr w) s = .next t ∧ RegistersAre t s.a s.x s.y (s.sp - 2) w ∧
      t.byteAt (stackAddr s.sp) = hiByte (s.pc + 2) ∧ t.byteAt (stackAddr (s.sp - 1)) = loByte (s.pc + 2) ∧
      (∀ k : Addr, k ≠ stackAddr s.sp → k ≠ stackAddr (s.sp - 1) → t.byteAt k = s.byteAt k) ∧ t.p = s.p ∧
      EngineKept s t ∧ CostsBase (.jsr w) s t

/-- R122: RTS pulls the low byte and then the high byte of an address and puts the next address in PC. -/
def Obligations.RtsPullsReturnAddress : Prop :=
  HasRows .rts [(.implied, 0x60)] ∧
    ∀ s : State, ∃ t, exec .rts s = .next t ∧
      RegistersAre t s.a s.x s.y (s.sp + 2)
        (joinBytes (s.byteAt (stackAddr (s.sp + 2))) (s.byteAt (stackAddr (s.sp + 1))) + 1) ∧
      t.p = s.p ∧ SameMemory s t ∧ EngineKept s t ∧ CostsBase .rts s t

/-! ### Arithmetic and compare (rules the spec marks as general knowledge, log entry 10) -/

/-- R124: ADC in every form, when D = 0 or DECIMAL_MODE = BINARY, adds the operand and C to A; C, V, Z and N are those of the sum.
When D = 1 under REFUSE it is refused, with its opcode and address. -/
def Obligations.AdcAddsOrRefuses : Prop :=
  HasRows .adc [(.immediate, 0x69), (.zeroPage, 0x65), (.zeroPageX, 0x75), (.absolute, 0x6D),
        (.absoluteX, 0x7D), (.absoluteY, 0x79), (.indirectX, 0x61), (.indirectY, 0x71)] ∧
    ∀ (i : Instr) (s : State) (src : Source), i.mnemonic = .adc → i.mode = .source src →
      (s.flag .d = false ∨ s.config.decimalMode = .binary →
        ∃ t, exec i s = .next t ∧ AddsWithCarry s (specOperand s src) t ∧ t.sp = s.sp ∧ t.pc = nextPc i s ∧ SameMemory s t ∧
          EngineKept s t ∧ CostsWith (bitValue (specCrossed s src)) i s t) ∧
      (s.flag .d = true → s.config.decimalMode = .refuse → exec i s = .refused (.decimalArithmetic i.opcode s.pc))

/-- R125: SBC in every form, when D = 0 or DECIMAL_MODE = BINARY, adds the operand's complement and C to A; C, V, Z and N are those
of the sum. When D = 1 under REFUSE it is refused, with its opcode and address. -/
def Obligations.SbcSubtractsOrRefuses : Prop :=
  HasRows .sbc [(.immediate, 0xE9), (.zeroPage, 0xE5), (.zeroPageX, 0xF5), (.absolute, 0xED),
        (.absoluteX, 0xFD), (.absoluteY, 0xF9), (.indirectX, 0xE1), (.indirectY, 0xF1)] ∧
    ∀ (i : Instr) (s : State) (src : Source), i.mnemonic = .sbc → i.mode = .source src →
      (s.flag .d = false ∨ s.config.decimalMode = .binary →
        ∃ t, exec i s = .next t ∧ AddsWithCarry s (0xFF ^^^ specOperand s src) t ∧ t.sp = s.sp ∧ t.pc = nextPc i s ∧
          SameMemory s t ∧ EngineKept s t ∧ CostsWith (bitValue (specCrossed s src)) i s t) ∧
      (s.flag .d = true → s.config.decimalMode = .refuse → exec i s = .refused (.decimalArithmetic i.opcode s.pc))

/-- R172 at the level of a call: with an ADC or SBC at PC, D = 1 and DECIMAL_MODE = REFUSE, the step is refused with the opcode and
address, and a call that begins there returns at once, refused, with no cycle consumed and no report. -/
def Obligations.DecimalRefusalStopsTheCall : Prop :=
  ∀ (s : State) (i : Instr), s.latched = false → s.fetched = some i → i.mnemonic ∈ [Mnemonic.adc, .sbc] →
    s.flag .d = true → s.config.decimalMode = .refuse →
    step s = .refused (.decimalArithmetic (s.byteAt s.pc) s.pc) ∧
    ∀ budget, 0 < budget →
      let r := execute budget s
      r.consumed = 0 ∧ r.reports = [] ∧ r.outcome = .refused (.decimalArithmetic (s.byteAt s.pc) s.pc)

/-- What ADC's and SBC's results and flags mean as numbers (from 44_arith_compare.md R124 and R125): ADC's V is set exactly when the
signed sum is outside -128 to 127; SBC gives A - v - (1 - C) modulo 256, its C is set exactly when that needs no borrow, and its V
exactly when the signed difference is outside -128 to 127. -/
def Obligations.ArithmeticFlagsMeanOverflow : Prop :=
  ∀ (a v : Byte) (c : Bool),
    let sum := a.toInt + v.toInt + bitValue c
    let difference := a.toInt - v.toInt - (1 - bitValue c)
    ((addWithCarry a v c).overflow = true ↔ sum < -128 ∨ 127 < sum) ∧
    ((subtractWithBorrow a v c).value.toNat : Int) = ((a.toNat : Int) - v.toNat - (1 - bitValue c)) % 256 ∧
    ((subtractWithBorrow a v c).carry = true ↔ v.toNat + (1 - bitValue c) ≤ a.toNat) ∧
    ((subtractWithBorrow a v c).overflow = true ↔ difference < -128 ∨ 127 < difference)

/-- R126 to R128: CMP, CPX and CPY in every form: C, Z and N of the register compared with the operand; D has no effect, V and the
registers are kept. -/
def Obligations.ComparesSetFlags : Prop :=
  ReadClassRule .cmp [(.immediate, 0xC9), (.zeroPage, 0xC5), (.zeroPageX, 0xD5), (.absolute, 0xCD),
        (.absoluteX, 0xDD), (.absoluteY, 0xD9), (.indirectX, 0xC1), (.indirectY, 0xD1)]
      (fun s v t => Compares s s.a v t) ∧
    ReadClassRule .cpx [(.immediate, 0xE0), (.zeroPage, 0xE4), (.absolute, 0xEC)]
      (fun s v t => Compares s s.x v t) ∧
    ReadClassRule .cpy [(.immediate, 0xC0), (.zeroPage, 0xC4), (.absolute, 0xCC)]
      (fun s v t => Compares s s.y v t)

/-! ### Increment, decrement, shift (rules the spec marks as general knowledge, log entry 10) -/

/-- R129 and R130: INC and DEC in every form write the byte plus or minus one, modulo 256, to the address they read. -/
def Obligations.IncDecModifyMemory : Prop :=
  ModifyRule .inc [(.zeroPage, 0xE6), (.zeroPageX, 0xF6), (.absolute, 0xEE), (.absoluteX, 0xFE)] (fun v => (v + 1) % 256) ∧
    ModifyRule .dec [(.zeroPage, 0xC6), (.zeroPageX, 0xD6), (.absolute, 0xCE), (.absoluteX, 0xDE)] (fun v => (v + 255) % 256)

/-- R131 to R134: INX, INY, DEX and DEY: the register plus or minus one, modulo 256, never a fault. -/
def Obligations.IncDecRegisters : Prop :=
  let flags (v : Byte) (s t : State) : Prop := ZNOf v t ∧ FlagsKept [.z, .n] s t ∧ t.a = s.a ∧ t.sp = s.sp
  ImpliedRule .inx 0xE8 (fun s t => t.x.toNat = (s.x.toNat + 1) % 256 ∧ t.y = s.y ∧ flags t.x s t) ∧
    ImpliedRule .iny 0xC8 (fun s t => t.y.toNat = (s.y.toNat + 1) % 256 ∧ t.x = s.x ∧ flags t.y s t) ∧
    ImpliedRule .dex 0xCA (fun s t => t.x.toNat = (s.x.toNat + 255) % 256 ∧ t.y = s.y ∧ flags t.x s t) ∧
    ImpliedRule .dey 0x88 (fun s t => t.y.toNat = (s.y.toNat + 255) % 256 ∧ t.x = s.x ∧ flags t.y s t)

/-- R135 and R137: ASL and ROL, on A and on memory: the byte doubled modulo 256, ROL with the old C in bit 0; C is the old bit 7. -/
def Obligations.LeftShifts : Prop :=
  ShiftRule .asl [(.accumulator, 0x0A), (.zeroPage, 0x06), (.zeroPageX, 0x16), (.absolute, 0x0E),
        (.absoluteX, 0x1E)]
      (fun v _ => 2 * v % 256) 7 ∧
    ShiftRule .rol [(.accumulator, 0x2A), (.zeroPage, 0x26), (.zeroPageX, 0x36), (.absolute, 0x2E),
        (.absoluteX, 0x3E)]
      (fun v c => (2 * v + c) % 256) 7

/-- R136 and R138: LSR and ROR, on A and on memory: the byte halved, ROR with the old C in bit 7; C is the old bit 0. -/
def Obligations.RightShifts : Prop :=
  ShiftRule .lsr [(.accumulator, 0x4A), (.zeroPage, 0x46), (.zeroPageX, 0x56), (.absolute, 0x4E),
        (.absoluteX, 0x5E)]
      (fun v _ => v / 2) 0 ∧
    ShiftRule .ror [(.accumulator, 0x6A), (.zeroPage, 0x66), (.zeroPageX, 0x76), (.absolute, 0x6E),
        (.absoluteX, 0x7E)]
      (fun v c => v / 2 + 128 * c) 0

/-! ### Branches, flags, NOP (rules the spec marks as general knowledge, log entry 10) -/

/-- R139 to R147: the eight branches, taken and not taken: the displacement is from the next instruction, modulo 65536; a taken
branch costs one more cycle, and two more into another page than the next instruction's; nothing but PC and the cost changes. -/
def Obligations.BranchesTransferOnFlag : Prop :=
  BranchRule .bpl 0x10 .n false ∧ BranchRule .bmi 0x30 .n true ∧ BranchRule .bvc 0x50 .v false ∧
    BranchRule .bvs 0x70 .v true ∧ BranchRule .bcc 0x90 .c false ∧ BranchRule .bcs 0xB0 .c true ∧
    BranchRule .bne 0xD0 .z false ∧ BranchRule .beq 0xF0 .z true

/-- R148 to R154: each flag instruction writes its one flag and nothing else but PC. -/
def Obligations.FlagInstructionsWriteOneFlag : Prop :=
  FlagRule .clc 0x18 .c false ∧ FlagRule .sec 0x38 .c true ∧ FlagRule .cli 0x58 .i false ∧ FlagRule .sei 0x78 .i true ∧
    FlagRule .clv 0xB8 .v false ∧ FlagRule .cld 0xD8 .d false ∧ FlagRule .sed 0xF8 .d true

/-- R155: NOP advances PC by one and changes nothing else but the cycle count. -/
def Obligations.NopOnlyAdvancesPc : Prop :=
  HasRows .nop [(.implied, 0xEA)] ∧
    ∀ s : State, exec .nop s = .next { s with
      pc := s.pc + 1
      consumed := s.consumed + baseCost s.config 0xEA }

/-! ### Cycles and the execute loop -/

/-- R205: the default cycle table's base cost and penalty class of every opcode. -/
def Obligations.DefaultCycleTable : Prop :=
  ∀ (c : Config) (i : Instr), c.cycleOverrides = [] →
    baseCost c i.opcode = specBaseCost i.mnemonic i.mode.name ∧ penaltyClass c i.opcode = specPenalty i.mnemonic i.mode.name

/-- R203 and R204: a decode failure costs 1 cycle. With the penalty class of R204, which the default table gives, an instruction
costs its base, and 1 more for a page cross of an indexed read-class row, 1 more for a taken branch, 2 more for one into another
page; nothing else costs more. (That the class is a parameter too is log entry 5.) -/
def Obligations.StepCosts : Prop :=
  ∀ s : State,
    (∀ t, dispatch s.config.instructionSet (s.byteAt s.pc) = none → step s = .next t → t.consumed = s.consumed + 1) ∧
    ∀ (i : Instr) (t : State), exec i s = .next t →
      penaltyClass s.config i.opcode = specPenalty i.mnemonic i.mode.name →
      match specPenalty i.mnemonic i.mode.name with
      | .fixed => t.consumed = s.consumed + baseCost s.config i.opcode
      | .page => ∀ mode, i.mode = .source (.memory mode) →
          t.consumed = s.consumed + baseCost s.config i.opcode + bitValue (resolve s mode).crossed
      | .branch => ∀ d, i.mode = .relative d →
          let target := s.pc + 2 + signExtend16 d
          t.consumed = s.consumed + baseCost s.config i.opcode +
            (if branchTaken i.mnemonic s = false then 0 else if hiByte target = hiByte (s.pc + 2) then 1 else 2)

/-- Bounds of a call (the spec's own inference, 70_reset_and_hazards.md R208): budget 0 runs nothing; a call that ends ok and not
latched has used its budget; a call that ran a step reached its last one by steps from its start and began it with budget left, so
it consumes at most the budget and that step's cost less 1; under the default table it overshoots by at most 6. The call's fields
between calls are log entry 2, the state after a refusal is log entry 7. -/
def Obligations.ExecuteBounds : Prop :=
  ∀ s : State,
    (execute 0 s = ⟨0, [], .ok, s.endCall⟩) ∧
    (∀ budget, let r := execute budget s
      (r.outcome = .ok → r.state.latched = false → budget ≤ r.consumed) ∧
      (r.consumed = 0 ∨ ∃ last t, Reaches (s.beginCall budget) last ∧ step last = .next t ∧
        t.consumed = r.consumed ∧ t.endCall = r.state ∧ last.consumed < budget) ∧
      (s.config.cycleOverrides = [] → r.consumed ≤ budget + 6)) ∧
    s.endCall.config = s.config

/-- A call whose budget is at least 1 and at most the cost of the instruction or decode failure at PC runs exactly that one step and
returns its cost: an instruction that is begun completes, and none is begun after it (the spec's own inference,
70_reset_and_hazards.md R208; the call's fields between calls are log entry 2). -/
def Obligations.ExecuteRunsOneStep : Prop :=
  ∀ (s t : State) (budget : Nat), 0 < budget → step (s.beginCall budget) = .next t → budget ≤ t.consumed →
    execute budget s = ⟨t.consumed, t.reports, .ok, t.endCall⟩

/-- Split calls (the spec's own inference, 70_reset_and_hazards.md R209): when the first call ends ok with zero overshoot, the second
call gives the state, the outcome and, added up, the cycles and reports of one call with the summed budget. Where the second call is
refused, that the states are equal rests on the model's choice of the state after a refusal (log entry 7); the call's fields between
calls are log entry 2. -/
def Obligations.ExecuteSplits : Prop :=
  ∀ (s : State) (b1 b2 : Nat), (execute b1 s).outcome = .ok → (execute b1 s).consumed = b1 →
    let first := execute b1 s
    let second := execute b2 first.state
    execute (b1 + b2) s = ⟨b1 + second.consumed, first.reports ++ second.reports, second.outcome, second.state⟩
end

