-- ==== Sys2Proof/Laws/Decode.lean ====
section
/-! SUPPORT. Laws of the byte helpers and of the decoder: what a successful decode says of its bytes. -/

namespace Sys2Proof

/-- Bit k of `{h, l}`: of l below 8, of h above. -/
theorem joinBytes_getLsbD (h l : Byte) (k : Nat) :
    (joinBytes h l).getLsbD k = if k < 8 then l.getLsbD k else h.getLsbD (k - 8) := by
  unfold joinBytes
  rw [BitVec.getLsbD_append]

@[simp] theorem hiByte_joinBytes (h l : Byte) : hiByte (joinBytes h l) = h := by
  apply BitVec.eq_of_getLsbD_eq
  intro k hk
  simp [hiByte, joinBytes_getLsbD, hk]

@[simp] theorem loByte_joinBytes (h l : Byte) : loByte (joinBytes h l) = l := by
  apply BitVec.eq_of_getLsbD_eq
  intro k hk
  simp [loByte, joinBytes_getLsbD, hk]

@[simp] theorem joinBytes_hiByte_loByte (w : Addr) : joinBytes (hiByte w) (loByte w) = w := by
  apply BitVec.eq_of_getLsbD_eq
  intro k hk
  rw [joinBytes_getLsbD]
  by_cases h : k < 8
  · simp [h, loByte]
  · have : k - 8 < 8 := by omega
    simp [h, this, hiByte, show 8 + (k - 8) = k by omega]

theorem joinBytes_toNat (h l : Byte) : (joinBytes h l).toNat = h.toNat * 256 + l.toNat := by
  unfold joinBytes
  rw [BitVec.toNat_append, Nat.shiftLeft_eq, ← Nat.shiftLeft_eq, ← Nat.shiftLeft_add_eq_or_of_lt l.isLt]

theorem zeroExtend16_toNat (b : Byte) : (zeroExtend16 b).toNat = b.toNat := by
  have := b.isLt
  simp [zeroExtend16, BitVec.toNat_setWidth]
  omega

theorem loByte_toNat (w : Addr) : (loByte w).toNat = w.toNat % 256 := by
  simp [loByte, BitVec.toNat_setWidth]

theorem hiByte_toNat (w : Addr) : (hiByte w).toNat = w.toNat / 256 := by
  have := w.isLt
  simp [hiByte, BitVec.extractLsb'_toNat, Nat.shiftRight_eq_div_pow]
  omega

/-- What it is for a format to build an instruction: from the instruction's own operand bytes. -/
def Format.Builds : Format → Instr → Prop
  | .f1 j, i => i.mode.operandBytes = [] ∧ j = i
  | .f2 build, i => ∃ b, i.mode.operandBytes = [b] ∧ build b = i
  | .f3 build, i => ∃ w, i.mode.operandBytes = [loByte w, hiByte w] ∧ build w = i

@[simp] theorem InstructionSet.full_admits (profile : InstructionSet) : InstructionSet.full.admits profile = true := by
  cases profile <;> rfl

theorem dispatch_eq_some {set : InstructionSet} {op : Byte} {format : Format} (h : dispatch set op = some format) :
    ∃ e, opcodeEntry op = some e ∧ set.admits e.profile = true ∧ e.format = format := by
  unfold dispatch at h
  split at h
  · cases h
  · rename_i e he
    split at h
    · exact ⟨e, he, ‹_›, by simpa using h⟩
    · cases h

/-- A decode that gives an instruction read its opcode and operand bytes from the head of the list. -/
theorem decode_cases {set : InstructionSet} {bytes rest : List Byte} {i : Instr} (h : decode set bytes = .ok (i, rest)) :
    ∃ op format, dispatch set op = some format ∧
      ((format = .f1 i ∧ bytes = op :: rest) ∨
        (∃ build b, format = .f2 build ∧ i = build b ∧ bytes = op :: b :: rest) ∨
        (∃ build l hi, format = .f3 build ∧ i = build (joinBytes hi l) ∧ bytes = op :: l :: hi :: rest)) := by
  cases bytes with
  | nil => cases h
  | cons op tail =>
    simp only [decode] at h
    cases hd : dispatch set op with
    | none => rw [hd] at h; cases h
    | some format =>
      rw [hd] at h
      refine ⟨op, format, hd, ?_⟩
      cases format with
      | f1 j => cases h; exact .inl ⟨rfl, rfl⟩
      | f2 build =>
        cases tail with
        | nil => cases h
        | cons b tail => cases h; exact .inr (.inl ⟨build, b, rfl, rfl, rfl⟩)
      | f3 build =>
        match tail, h with
        | l :: hi :: tail, h => cases h; exact .inr (.inr ⟨build, l, hi, rfl, rfl, rfl⟩)

/-- The only way a list of three bytes fails to decode: its opcode byte has no handler. -/
theorem decode_three_error {set : InstructionSet} {op b c : Byte} {e : DecodeError} (h : decode set [op, b, c] = .error e) :
    e = .noHandler op ∧ dispatch set op = none := by
  simp only [decode] at h
  split at h <;> simp_all

theorem decode_noHandler {set : InstructionSet} {op : Byte} {rest : List Byte} (h : dispatch set op = none) :
    decode set (op :: rest) = .error (.noHandler op) := by
  simp only [decode, h]

end Sys2Proof
end

