-- ==== Sys2Proof/Laws/State.lean ====
section
/-! SUPPORT. One lemma for each field of State and each named update of it: what the field holds after the update. -/

namespace Sys2Proof.Machine

/-! #### setA -/

@[simp] theorem State.setA_a (s : State) (v : Byte) : (s.setA v).a = v := rfl
@[simp] theorem State.setA_x (s : State) (v : Byte) : (s.setA v).x = s.x := rfl
@[simp] theorem State.setA_y (s : State) (v : Byte) : (s.setA v).y = s.y := rfl
@[simp] theorem State.setA_sp (s : State) (v : Byte) : (s.setA v).sp = s.sp := rfl
@[simp] theorem State.setA_pc (s : State) (v : Byte) : (s.setA v).pc = s.pc := rfl
@[simp] theorem State.setA_p (s : State) (v : Byte) : (s.setA v).p = s.p := rfl
@[simp] theorem State.setA_mem (s : State) (v : Byte) : (s.setA v).mem = s.mem := rfl
@[simp] theorem State.setA_halted (s : State) (v : Byte) : (s.setA v).halted = s.halted := rfl
@[simp] theorem State.setA_budget (s : State) (v : Byte) : (s.setA v).budget = s.budget := rfl
@[simp] theorem State.setA_consumed (s : State) (v : Byte) : (s.setA v).consumed = s.consumed := rfl
@[simp] theorem State.setA_reports (s : State) (v : Byte) : (s.setA v).reports = s.reports := rfl
@[simp] theorem State.setA_config (s : State) (v : Byte) : (s.setA v).config = s.config := rfl

/-! #### setX -/

@[simp] theorem State.setX_a (s : State) (v : Byte) : (s.setX v).a = s.a := rfl
@[simp] theorem State.setX_x (s : State) (v : Byte) : (s.setX v).x = v := rfl
@[simp] theorem State.setX_y (s : State) (v : Byte) : (s.setX v).y = s.y := rfl
@[simp] theorem State.setX_sp (s : State) (v : Byte) : (s.setX v).sp = s.sp := rfl
@[simp] theorem State.setX_pc (s : State) (v : Byte) : (s.setX v).pc = s.pc := rfl
@[simp] theorem State.setX_p (s : State) (v : Byte) : (s.setX v).p = s.p := rfl
@[simp] theorem State.setX_mem (s : State) (v : Byte) : (s.setX v).mem = s.mem := rfl
@[simp] theorem State.setX_halted (s : State) (v : Byte) : (s.setX v).halted = s.halted := rfl
@[simp] theorem State.setX_budget (s : State) (v : Byte) : (s.setX v).budget = s.budget := rfl
@[simp] theorem State.setX_consumed (s : State) (v : Byte) : (s.setX v).consumed = s.consumed := rfl
@[simp] theorem State.setX_reports (s : State) (v : Byte) : (s.setX v).reports = s.reports := rfl
@[simp] theorem State.setX_config (s : State) (v : Byte) : (s.setX v).config = s.config := rfl

/-! #### setY -/

@[simp] theorem State.setY_a (s : State) (v : Byte) : (s.setY v).a = s.a := rfl
@[simp] theorem State.setY_x (s : State) (v : Byte) : (s.setY v).x = s.x := rfl
@[simp] theorem State.setY_y (s : State) (v : Byte) : (s.setY v).y = v := rfl
@[simp] theorem State.setY_sp (s : State) (v : Byte) : (s.setY v).sp = s.sp := rfl
@[simp] theorem State.setY_pc (s : State) (v : Byte) : (s.setY v).pc = s.pc := rfl
@[simp] theorem State.setY_p (s : State) (v : Byte) : (s.setY v).p = s.p := rfl
@[simp] theorem State.setY_mem (s : State) (v : Byte) : (s.setY v).mem = s.mem := rfl
@[simp] theorem State.setY_halted (s : State) (v : Byte) : (s.setY v).halted = s.halted := rfl
@[simp] theorem State.setY_budget (s : State) (v : Byte) : (s.setY v).budget = s.budget := rfl
@[simp] theorem State.setY_consumed (s : State) (v : Byte) : (s.setY v).consumed = s.consumed := rfl
@[simp] theorem State.setY_reports (s : State) (v : Byte) : (s.setY v).reports = s.reports := rfl
@[simp] theorem State.setY_config (s : State) (v : Byte) : (s.setY v).config = s.config := rfl

/-! #### setSp -/

@[simp] theorem State.setSp_a (s : State) (v : Byte) : (s.setSp v).a = s.a := rfl
@[simp] theorem State.setSp_x (s : State) (v : Byte) : (s.setSp v).x = s.x := rfl
@[simp] theorem State.setSp_y (s : State) (v : Byte) : (s.setSp v).y = s.y := rfl
@[simp] theorem State.setSp_sp (s : State) (v : Byte) : (s.setSp v).sp = v := rfl
@[simp] theorem State.setSp_pc (s : State) (v : Byte) : (s.setSp v).pc = s.pc := rfl
@[simp] theorem State.setSp_p (s : State) (v : Byte) : (s.setSp v).p = s.p := rfl
@[simp] theorem State.setSp_mem (s : State) (v : Byte) : (s.setSp v).mem = s.mem := rfl
@[simp] theorem State.setSp_halted (s : State) (v : Byte) : (s.setSp v).halted = s.halted := rfl
@[simp] theorem State.setSp_budget (s : State) (v : Byte) : (s.setSp v).budget = s.budget := rfl
@[simp] theorem State.setSp_consumed (s : State) (v : Byte) : (s.setSp v).consumed = s.consumed := rfl
@[simp] theorem State.setSp_reports (s : State) (v : Byte) : (s.setSp v).reports = s.reports := rfl
@[simp] theorem State.setSp_config (s : State) (v : Byte) : (s.setSp v).config = s.config := rfl

/-! #### setPc -/

@[simp] theorem State.setPc_a (s : State) (w : Addr) : (s.setPc w).a = s.a := rfl
@[simp] theorem State.setPc_x (s : State) (w : Addr) : (s.setPc w).x = s.x := rfl
@[simp] theorem State.setPc_y (s : State) (w : Addr) : (s.setPc w).y = s.y := rfl
@[simp] theorem State.setPc_sp (s : State) (w : Addr) : (s.setPc w).sp = s.sp := rfl
@[simp] theorem State.setPc_pc (s : State) (w : Addr) : (s.setPc w).pc = w := rfl
@[simp] theorem State.setPc_p (s : State) (w : Addr) : (s.setPc w).p = s.p := rfl
@[simp] theorem State.setPc_mem (s : State) (w : Addr) : (s.setPc w).mem = s.mem := rfl
@[simp] theorem State.setPc_halted (s : State) (w : Addr) : (s.setPc w).halted = s.halted := rfl
@[simp] theorem State.setPc_budget (s : State) (w : Addr) : (s.setPc w).budget = s.budget := rfl
@[simp] theorem State.setPc_consumed (s : State) (w : Addr) : (s.setPc w).consumed = s.consumed := rfl
@[simp] theorem State.setPc_reports (s : State) (w : Addr) : (s.setPc w).reports = s.reports := rfl
@[simp] theorem State.setPc_config (s : State) (w : Addr) : (s.setPc w).config = s.config := rfl

/-! #### setP -/

@[simp] theorem State.setP_a (s : State) (v : Byte) : (s.setP v).a = s.a := rfl
@[simp] theorem State.setP_x (s : State) (v : Byte) : (s.setP v).x = s.x := rfl
@[simp] theorem State.setP_y (s : State) (v : Byte) : (s.setP v).y = s.y := rfl
@[simp] theorem State.setP_sp (s : State) (v : Byte) : (s.setP v).sp = s.sp := rfl
@[simp] theorem State.setP_pc (s : State) (v : Byte) : (s.setP v).pc = s.pc := rfl
@[simp] theorem State.setP_p (s : State) (v : Byte) : (s.setP v).p = v := rfl
@[simp] theorem State.setP_mem (s : State) (v : Byte) : (s.setP v).mem = s.mem := rfl
@[simp] theorem State.setP_halted (s : State) (v : Byte) : (s.setP v).halted = s.halted := rfl
@[simp] theorem State.setP_budget (s : State) (v : Byte) : (s.setP v).budget = s.budget := rfl
@[simp] theorem State.setP_consumed (s : State) (v : Byte) : (s.setP v).consumed = s.consumed := rfl
@[simp] theorem State.setP_reports (s : State) (v : Byte) : (s.setP v).reports = s.reports := rfl
@[simp] theorem State.setP_config (s : State) (v : Byte) : (s.setP v).config = s.config := rfl

/-! #### setByte -/

@[simp] theorem State.setByte_a (s : State) (addr : Addr) (v : Byte) : (s.setByte addr v).a = s.a := rfl
@[simp] theorem State.setByte_x (s : State) (addr : Addr) (v : Byte) : (s.setByte addr v).x = s.x := rfl
@[simp] theorem State.setByte_y (s : State) (addr : Addr) (v : Byte) : (s.setByte addr v).y = s.y := rfl
@[simp] theorem State.setByte_sp (s : State) (addr : Addr) (v : Byte) : (s.setByte addr v).sp = s.sp := rfl
@[simp] theorem State.setByte_pc (s : State) (addr : Addr) (v : Byte) : (s.setByte addr v).pc = s.pc := rfl
@[simp] theorem State.setByte_p (s : State) (addr : Addr) (v : Byte) : (s.setByte addr v).p = s.p := rfl
@[simp] theorem State.setByte_mem (s : State) (addr : Addr) (v : Byte) : (s.setByte addr v).mem = s.mem.write addr.toNat v := rfl
@[simp] theorem State.setByte_halted (s : State) (addr : Addr) (v : Byte) : (s.setByte addr v).halted = s.halted := rfl
@[simp] theorem State.setByte_budget (s : State) (addr : Addr) (v : Byte) : (s.setByte addr v).budget = s.budget := rfl
@[simp] theorem State.setByte_consumed (s : State) (addr : Addr) (v : Byte) : (s.setByte addr v).consumed = s.consumed := rfl
@[simp] theorem State.setByte_reports (s : State) (addr : Addr) (v : Byte) : (s.setByte addr v).reports = s.reports := rfl
@[simp] theorem State.setByte_config (s : State) (addr : Addr) (v : Byte) : (s.setByte addr v).config = s.config := rfl

/-! #### charge -/

@[simp] theorem State.charge_a (s : State) (n : Nat) : (s.charge n).a = s.a := rfl
@[simp] theorem State.charge_x (s : State) (n : Nat) : (s.charge n).x = s.x := rfl
@[simp] theorem State.charge_y (s : State) (n : Nat) : (s.charge n).y = s.y := rfl
@[simp] theorem State.charge_sp (s : State) (n : Nat) : (s.charge n).sp = s.sp := rfl
@[simp] theorem State.charge_pc (s : State) (n : Nat) : (s.charge n).pc = s.pc := rfl
@[simp] theorem State.charge_p (s : State) (n : Nat) : (s.charge n).p = s.p := rfl
@[simp] theorem State.charge_mem (s : State) (n : Nat) : (s.charge n).mem = s.mem := rfl
@[simp] theorem State.charge_halted (s : State) (n : Nat) : (s.charge n).halted = s.halted := rfl
@[simp] theorem State.charge_budget (s : State) (n : Nat) : (s.charge n).budget = s.budget := rfl
@[simp] theorem State.charge_consumed (s : State) (n : Nat) : (s.charge n).consumed = s.consumed + n := rfl
@[simp] theorem State.charge_reports (s : State) (n : Nat) : (s.charge n).reports = s.reports := rfl
@[simp] theorem State.charge_config (s : State) (n : Nat) : (s.charge n).config = s.config := rfl

/-! #### advance -/

@[simp] theorem State.advance_a (s : State) (n : Nat) : (s.advance n).a = s.a := rfl
@[simp] theorem State.advance_x (s : State) (n : Nat) : (s.advance n).x = s.x := rfl
@[simp] theorem State.advance_y (s : State) (n : Nat) : (s.advance n).y = s.y := rfl
@[simp] theorem State.advance_sp (s : State) (n : Nat) : (s.advance n).sp = s.sp := rfl
@[simp] theorem State.advance_pc (s : State) (n : Nat) : (s.advance n).pc = s.pc + BitVec.ofNat 16 n := rfl
@[simp] theorem State.advance_p (s : State) (n : Nat) : (s.advance n).p = s.p := rfl
@[simp] theorem State.advance_mem (s : State) (n : Nat) : (s.advance n).mem = s.mem := rfl
@[simp] theorem State.advance_halted (s : State) (n : Nat) : (s.advance n).halted = s.halted := rfl
@[simp] theorem State.advance_budget (s : State) (n : Nat) : (s.advance n).budget = s.budget := rfl
@[simp] theorem State.advance_consumed (s : State) (n : Nat) : (s.advance n).consumed = s.consumed := rfl
@[simp] theorem State.advance_reports (s : State) (n : Nat) : (s.advance n).reports = s.reports := rfl
@[simp] theorem State.advance_config (s : State) (n : Nat) : (s.advance n).config = s.config := rfl

/-! #### setFlag -/

@[simp] theorem State.setFlag_a (s : State) (f : Flag) (b : Bool) : (s.setFlag f b).a = s.a := rfl
@[simp] theorem State.setFlag_x (s : State) (f : Flag) (b : Bool) : (s.setFlag f b).x = s.x := rfl
@[simp] theorem State.setFlag_y (s : State) (f : Flag) (b : Bool) : (s.setFlag f b).y = s.y := rfl
@[simp] theorem State.setFlag_sp (s : State) (f : Flag) (b : Bool) : (s.setFlag f b).sp = s.sp := rfl
@[simp] theorem State.setFlag_pc (s : State) (f : Flag) (b : Bool) : (s.setFlag f b).pc = s.pc := rfl
@[simp] theorem State.setFlag_p (s : State) (f : Flag) (b : Bool) : (s.setFlag f b).p = putFlag s.p f b := rfl
@[simp] theorem State.setFlag_mem (s : State) (f : Flag) (b : Bool) : (s.setFlag f b).mem = s.mem := rfl
@[simp] theorem State.setFlag_halted (s : State) (f : Flag) (b : Bool) : (s.setFlag f b).halted = s.halted := rfl
@[simp] theorem State.setFlag_budget (s : State) (f : Flag) (b : Bool) : (s.setFlag f b).budget = s.budget := rfl
@[simp] theorem State.setFlag_consumed (s : State) (f : Flag) (b : Bool) : (s.setFlag f b).consumed = s.consumed := rfl
@[simp] theorem State.setFlag_reports (s : State) (f : Flag) (b : Bool) : (s.setFlag f b).reports = s.reports := rfl
@[simp] theorem State.setFlag_config (s : State) (f : Flag) (b : Bool) : (s.setFlag f b).config = s.config := rfl

/-! #### setZN -/

@[simp] theorem State.setZN_a (s : State) (v : Byte) : (s.setZN v).a = s.a := rfl
@[simp] theorem State.setZN_x (s : State) (v : Byte) : (s.setZN v).x = s.x := rfl
@[simp] theorem State.setZN_y (s : State) (v : Byte) : (s.setZN v).y = s.y := rfl
@[simp] theorem State.setZN_sp (s : State) (v : Byte) : (s.setZN v).sp = s.sp := rfl
@[simp] theorem State.setZN_pc (s : State) (v : Byte) : (s.setZN v).pc = s.pc := rfl
@[simp] theorem State.setZN_p (s : State) (v : Byte) : (s.setZN v).p = putFlag (putFlag s.p .z (v == 0)) .n (v.getLsbD 7) := rfl
@[simp] theorem State.setZN_mem (s : State) (v : Byte) : (s.setZN v).mem = s.mem := rfl
@[simp] theorem State.setZN_halted (s : State) (v : Byte) : (s.setZN v).halted = s.halted := rfl
@[simp] theorem State.setZN_budget (s : State) (v : Byte) : (s.setZN v).budget = s.budget := rfl
@[simp] theorem State.setZN_consumed (s : State) (v : Byte) : (s.setZN v).consumed = s.consumed := rfl
@[simp] theorem State.setZN_reports (s : State) (v : Byte) : (s.setZN v).reports = s.reports := rfl
@[simp] theorem State.setZN_config (s : State) (v : Byte) : (s.setZN v).config = s.config := rfl

/-! #### setBitTest -/

@[simp] theorem State.setBitTest_a (s : State) (v : Byte) : (s.setBitTest v).a = s.a := rfl
@[simp] theorem State.setBitTest_x (s : State) (v : Byte) : (s.setBitTest v).x = s.x := rfl
@[simp] theorem State.setBitTest_y (s : State) (v : Byte) : (s.setBitTest v).y = s.y := rfl
@[simp] theorem State.setBitTest_sp (s : State) (v : Byte) : (s.setBitTest v).sp = s.sp := rfl
@[simp] theorem State.setBitTest_pc (s : State) (v : Byte) : (s.setBitTest v).pc = s.pc := rfl
@[simp] theorem State.setBitTest_p (s : State) (v : Byte) : (s.setBitTest v).p = putFlag (putFlag (putFlag s.p .z ((s.a &&& v) == 0)) .v (v.getLsbD 6)) .n (v.getLsbD 7) := rfl
@[simp] theorem State.setBitTest_mem (s : State) (v : Byte) : (s.setBitTest v).mem = s.mem := rfl
@[simp] theorem State.setBitTest_halted (s : State) (v : Byte) : (s.setBitTest v).halted = s.halted := rfl
@[simp] theorem State.setBitTest_budget (s : State) (v : Byte) : (s.setBitTest v).budget = s.budget := rfl
@[simp] theorem State.setBitTest_consumed (s : State) (v : Byte) : (s.setBitTest v).consumed = s.consumed := rfl
@[simp] theorem State.setBitTest_reports (s : State) (v : Byte) : (s.setBitTest v).reports = s.reports := rfl
@[simp] theorem State.setBitTest_config (s : State) (v : Byte) : (s.setBitTest v).config = s.config := rfl

/-! #### setCompare -/

@[simp] theorem State.setCompare_a (s : State) (r v : Byte) : (s.setCompare r v).a = s.a := rfl
@[simp] theorem State.setCompare_x (s : State) (r v : Byte) : (s.setCompare r v).x = s.x := rfl
@[simp] theorem State.setCompare_y (s : State) (r v : Byte) : (s.setCompare r v).y = s.y := rfl
@[simp] theorem State.setCompare_sp (s : State) (r v : Byte) : (s.setCompare r v).sp = s.sp := rfl
@[simp] theorem State.setCompare_pc (s : State) (r v : Byte) : (s.setCompare r v).pc = s.pc := rfl
@[simp] theorem State.setCompare_p (s : State) (r v : Byte) : (s.setCompare r v).p = putFlag (putFlag (putFlag s.p .c (decide (v.toNat ≤ r.toNat))) .z (r - v == 0)) .n ((r - v).getLsbD 7) := rfl
@[simp] theorem State.setCompare_mem (s : State) (r v : Byte) : (s.setCompare r v).mem = s.mem := rfl
@[simp] theorem State.setCompare_halted (s : State) (r v : Byte) : (s.setCompare r v).halted = s.halted := rfl
@[simp] theorem State.setCompare_budget (s : State) (r v : Byte) : (s.setCompare r v).budget = s.budget := rfl
@[simp] theorem State.setCompare_consumed (s : State) (r v : Byte) : (s.setCompare r v).consumed = s.consumed := rfl
@[simp] theorem State.setCompare_reports (s : State) (r v : Byte) : (s.setCompare r v).reports = s.reports := rfl
@[simp] theorem State.setCompare_config (s : State) (r v : Byte) : (s.setCompare r v).config = s.config := rfl

/-! #### push -/

@[simp] theorem State.push_a (s : State) (v : Byte) : (s.push v).a = s.a := rfl
@[simp] theorem State.push_x (s : State) (v : Byte) : (s.push v).x = s.x := rfl
@[simp] theorem State.push_y (s : State) (v : Byte) : (s.push v).y = s.y := rfl
@[simp] theorem State.push_sp (s : State) (v : Byte) : (s.push v).sp = s.sp - 1 := rfl
@[simp] theorem State.push_pc (s : State) (v : Byte) : (s.push v).pc = s.pc := rfl
@[simp] theorem State.push_p (s : State) (v : Byte) : (s.push v).p = s.p := rfl
@[simp] theorem State.push_mem (s : State) (v : Byte) : (s.push v).mem = s.mem.write (stackAddr s.sp).toNat v := rfl
@[simp] theorem State.push_halted (s : State) (v : Byte) : (s.push v).halted = s.halted := rfl
@[simp] theorem State.push_budget (s : State) (v : Byte) : (s.push v).budget = s.budget := rfl
@[simp] theorem State.push_consumed (s : State) (v : Byte) : (s.push v).consumed = s.consumed := rfl
@[simp] theorem State.push_reports (s : State) (v : Byte) : (s.push v).reports = s.reports := rfl
@[simp] theorem State.push_config (s : State) (v : Byte) : (s.push v).config = s.config := rfl

/-! #### push16 -/

@[simp] theorem State.push16_a (s : State) (w : Addr) : (s.push16 w).a = s.a := rfl
@[simp] theorem State.push16_x (s : State) (w : Addr) : (s.push16 w).x = s.x := rfl
@[simp] theorem State.push16_y (s : State) (w : Addr) : (s.push16 w).y = s.y := rfl
@[simp] theorem State.push16_sp (s : State) (w : Addr) : (s.push16 w).sp = s.sp - 1 - 1 := rfl
@[simp] theorem State.push16_pc (s : State) (w : Addr) : (s.push16 w).pc = s.pc := rfl
@[simp] theorem State.push16_p (s : State) (w : Addr) : (s.push16 w).p = s.p := rfl
@[simp] theorem State.push16_mem (s : State) (w : Addr) : (s.push16 w).mem = (s.mem.write (stackAddr s.sp).toNat (hiByte w)).write (stackAddr (s.sp - 1)).toNat (loByte w) := rfl
@[simp] theorem State.push16_halted (s : State) (w : Addr) : (s.push16 w).halted = s.halted := rfl
@[simp] theorem State.push16_budget (s : State) (w : Addr) : (s.push16 w).budget = s.budget := rfl
@[simp] theorem State.push16_consumed (s : State) (w : Addr) : (s.push16 w).consumed = s.consumed := rfl
@[simp] theorem State.push16_reports (s : State) (w : Addr) : (s.push16 w).reports = s.reports := rfl
@[simp] theorem State.push16_config (s : State) (w : Addr) : (s.push16 w).config = s.config := rfl

/-! #### takeDecodeFailure -/

@[simp] theorem State.takeDecodeFailure_a (s : State) : (s.takeDecodeFailure).a = s.a := rfl
@[simp] theorem State.takeDecodeFailure_x (s : State) : (s.takeDecodeFailure).x = s.x := rfl
@[simp] theorem State.takeDecodeFailure_y (s : State) : (s.takeDecodeFailure).y = s.y := rfl
@[simp] theorem State.takeDecodeFailure_sp (s : State) : (s.takeDecodeFailure).sp = s.sp := rfl
@[simp] theorem State.takeDecodeFailure_pc (s : State) : (s.takeDecodeFailure).pc = s.pc + 1 := rfl
@[simp] theorem State.takeDecodeFailure_p (s : State) : (s.takeDecodeFailure).p = s.p := rfl
@[simp] theorem State.takeDecodeFailure_mem (s : State) : (s.takeDecodeFailure).mem = s.mem := rfl
@[simp] theorem State.takeDecodeFailure_halted (s : State) : (s.takeDecodeFailure).halted = if s.config.unknownOpcode = .halt then true else s.halted := rfl
@[simp] theorem State.takeDecodeFailure_budget (s : State) : (s.takeDecodeFailure).budget = s.budget := rfl
@[simp] theorem State.takeDecodeFailure_consumed (s : State) : (s.takeDecodeFailure).consumed = s.consumed + 1 := rfl
@[simp] theorem State.takeDecodeFailure_reports (s : State) : (s.takeDecodeFailure).reports = s.reports ++ [⟨s.byteAt s.pc, s.pc⟩] := rfl
@[simp] theorem State.takeDecodeFailure_config (s : State) : (s.takeDecodeFailure).config = s.config := rfl

/-! #### beginCall -/

@[simp] theorem State.beginCall_a (s : State) (n : Nat) : (s.beginCall n).a = s.a := rfl
@[simp] theorem State.beginCall_x (s : State) (n : Nat) : (s.beginCall n).x = s.x := rfl
@[simp] theorem State.beginCall_y (s : State) (n : Nat) : (s.beginCall n).y = s.y := rfl
@[simp] theorem State.beginCall_sp (s : State) (n : Nat) : (s.beginCall n).sp = s.sp := rfl
@[simp] theorem State.beginCall_pc (s : State) (n : Nat) : (s.beginCall n).pc = s.pc := rfl
@[simp] theorem State.beginCall_p (s : State) (n : Nat) : (s.beginCall n).p = s.p := rfl
@[simp] theorem State.beginCall_mem (s : State) (n : Nat) : (s.beginCall n).mem = s.mem := rfl
@[simp] theorem State.beginCall_halted (s : State) (n : Nat) : (s.beginCall n).halted = s.halted := rfl
@[simp] theorem State.beginCall_budget (s : State) (n : Nat) : (s.beginCall n).budget = n := rfl
@[simp] theorem State.beginCall_consumed (s : State) (n : Nat) : (s.beginCall n).consumed = 0 := rfl
@[simp] theorem State.beginCall_reports (s : State) (n : Nat) : (s.beginCall n).reports = [] := rfl
@[simp] theorem State.beginCall_config (s : State) (n : Nat) : (s.beginCall n).config = s.config := rfl

/-! #### endCall -/

@[simp] theorem State.endCall_a (s : State) : (s.endCall).a = s.a := rfl
@[simp] theorem State.endCall_x (s : State) : (s.endCall).x = s.x := rfl
@[simp] theorem State.endCall_y (s : State) : (s.endCall).y = s.y := rfl
@[simp] theorem State.endCall_sp (s : State) : (s.endCall).sp = s.sp := rfl
@[simp] theorem State.endCall_pc (s : State) : (s.endCall).pc = s.pc := rfl
@[simp] theorem State.endCall_p (s : State) : (s.endCall).p = s.p := rfl
@[simp] theorem State.endCall_mem (s : State) : (s.endCall).mem = s.mem := rfl
@[simp] theorem State.endCall_halted (s : State) : (s.endCall).halted = s.halted := rfl
@[simp] theorem State.endCall_budget (s : State) : (s.endCall).budget = 0 := rfl
@[simp] theorem State.endCall_consumed (s : State) : (s.endCall).consumed = 0 := rfl
@[simp] theorem State.endCall_reports (s : State) : (s.endCall).reports = [] := rfl
@[simp] theorem State.endCall_config (s : State) : (s.endCall).config = s.config := rfl

/-! #### pull and pull16 -/

@[simp] theorem State.pull_a (s : State) : s.pull.2.a = s.a := rfl
@[simp] theorem State.pull_x (s : State) : s.pull.2.x = s.x := rfl
@[simp] theorem State.pull_y (s : State) : s.pull.2.y = s.y := rfl
@[simp] theorem State.pull_sp (s : State) : s.pull.2.sp = s.sp + 1 := rfl
@[simp] theorem State.pull_pc (s : State) : s.pull.2.pc = s.pc := rfl
@[simp] theorem State.pull_p (s : State) : s.pull.2.p = s.p := rfl
@[simp] theorem State.pull_mem (s : State) : s.pull.2.mem = s.mem := rfl
@[simp] theorem State.pull_halted (s : State) : s.pull.2.halted = s.halted := rfl
@[simp] theorem State.pull_budget (s : State) : s.pull.2.budget = s.budget := rfl
@[simp] theorem State.pull_consumed (s : State) : s.pull.2.consumed = s.consumed := rfl
@[simp] theorem State.pull_reports (s : State) : s.pull.2.reports = s.reports := rfl
@[simp] theorem State.pull_config (s : State) : s.pull.2.config = s.config := rfl
@[simp] theorem State.pull16_a (s : State) : s.pull16.2.a = s.a := rfl
@[simp] theorem State.pull16_x (s : State) : s.pull16.2.x = s.x := rfl
@[simp] theorem State.pull16_y (s : State) : s.pull16.2.y = s.y := rfl
@[simp] theorem State.pull16_sp (s : State) : s.pull16.2.sp = s.sp + 1 + 1 := rfl
@[simp] theorem State.pull16_pc (s : State) : s.pull16.2.pc = s.pc := rfl
@[simp] theorem State.pull16_p (s : State) : s.pull16.2.p = s.p := rfl
@[simp] theorem State.pull16_mem (s : State) : s.pull16.2.mem = s.mem := rfl
@[simp] theorem State.pull16_halted (s : State) : s.pull16.2.halted = s.halted := rfl
@[simp] theorem State.pull16_budget (s : State) : s.pull16.2.budget = s.budget := rfl
@[simp] theorem State.pull16_consumed (s : State) : s.pull16.2.consumed = s.consumed := rfl
@[simp] theorem State.pull16_reports (s : State) : s.pull16.2.reports = s.reports := rfl
@[simp] theorem State.pull16_config (s : State) : s.pull16.2.config = s.config := rfl

@[simp] theorem State.pull_value (s : State) : s.pull.1 = s.byteAt (stackAddr (s.sp + 1)) := rfl
@[simp] theorem State.pull16_value (s : State) :
    s.pull16.1 = joinBytes (s.byteAt (stackAddr (s.sp + 1 + 1))) (s.byteAt (stackAddr (s.sp + 1))) := rfl

/-! #### bytes and flags read through the updates that do not touch them -/

@[simp] theorem State.setA_byteAt (s : State) (v : Byte) (k : Addr) : (s.setA v).byteAt k = s.byteAt k := rfl
@[simp] theorem State.setA_flag (s : State) (v : Byte) (f : Flag) : (s.setA v).flag f = s.flag f := rfl
@[simp] theorem State.setX_byteAt (s : State) (v : Byte) (k : Addr) : (s.setX v).byteAt k = s.byteAt k := rfl
@[simp] theorem State.setX_flag (s : State) (v : Byte) (f : Flag) : (s.setX v).flag f = s.flag f := rfl
@[simp] theorem State.setY_byteAt (s : State) (v : Byte) (k : Addr) : (s.setY v).byteAt k = s.byteAt k := rfl
@[simp] theorem State.setY_flag (s : State) (v : Byte) (f : Flag) : (s.setY v).flag f = s.flag f := rfl
@[simp] theorem State.setSp_byteAt (s : State) (v : Byte) (k : Addr) : (s.setSp v).byteAt k = s.byteAt k := rfl
@[simp] theorem State.setSp_flag (s : State) (v : Byte) (f : Flag) : (s.setSp v).flag f = s.flag f := rfl
@[simp] theorem State.setPc_byteAt (s : State) (w : Addr) (k : Addr) : (s.setPc w).byteAt k = s.byteAt k := rfl
@[simp] theorem State.setPc_flag (s : State) (w : Addr) (f : Flag) : (s.setPc w).flag f = s.flag f := rfl
@[simp] theorem State.setP_byteAt (s : State) (v : Byte) (k : Addr) : (s.setP v).byteAt k = s.byteAt k := rfl
@[simp] theorem State.setByte_flag (s : State) (addr : Addr) (v : Byte) (f : Flag) : (s.setByte addr v).flag f = s.flag f := rfl
@[simp] theorem State.charge_byteAt (s : State) (n : Nat) (k : Addr) : (s.charge n).byteAt k = s.byteAt k := rfl
@[simp] theorem State.charge_flag (s : State) (n : Nat) (f : Flag) : (s.charge n).flag f = s.flag f := rfl
@[simp] theorem State.advance_byteAt (s : State) (n : Nat) (k : Addr) : (s.advance n).byteAt k = s.byteAt k := rfl
@[simp] theorem State.advance_flag (s : State) (n : Nat) (f : Flag) : (s.advance n).flag f = s.flag f := rfl
@[simp] theorem State.setFlag_byteAt (s : State) (f : Flag) (b : Bool) (k : Addr) : (s.setFlag f b).byteAt k = s.byteAt k := rfl
@[simp] theorem State.setZN_byteAt (s : State) (v : Byte) (k : Addr) : (s.setZN v).byteAt k = s.byteAt k := rfl
@[simp] theorem State.setBitTest_byteAt (s : State) (v : Byte) (k : Addr) : (s.setBitTest v).byteAt k = s.byteAt k := rfl
@[simp] theorem State.setCompare_byteAt (s : State) (r v : Byte) (k : Addr) : (s.setCompare r v).byteAt k = s.byteAt k := rfl
@[simp] theorem State.push_flag (s : State) (v : Byte) (f : Flag) : (s.push v).flag f = s.flag f := rfl
@[simp] theorem State.push16_flag (s : State) (w : Addr) (f : Flag) : (s.push16 w).flag f = s.flag f := rfl
@[simp] theorem State.takeDecodeFailure_byteAt (s : State) (k : Addr) : (s.takeDecodeFailure).byteAt k = s.byteAt k := rfl
@[simp] theorem State.takeDecodeFailure_flag (s : State) (f : Flag) : (s.takeDecodeFailure).flag f = s.flag f := rfl
@[simp] theorem State.beginCall_byteAt (s : State) (n : Nat) (k : Addr) : (s.beginCall n).byteAt k = s.byteAt k := rfl
@[simp] theorem State.beginCall_flag (s : State) (n : Nat) (f : Flag) : (s.beginCall n).flag f = s.flag f := rfl
@[simp] theorem State.endCall_byteAt (s : State) (k : Addr) : (s.endCall).byteAt k = s.byteAt k := rfl
@[simp] theorem State.endCall_flag (s : State) (f : Flag) : (s.endCall).flag f = s.flag f := rfl
@[simp] theorem State.pull_byteAt (s : State) (k : Addr) : s.pull.2.byteAt k = s.byteAt k := rfl
@[simp] theorem State.pull_flag (s : State) (f : Flag) : s.pull.2.flag f = s.flag f := rfl
@[simp] theorem State.pull16_byteAt (s : State) (k : Addr) : s.pull16.2.byteAt k = s.byteAt k := rfl
@[simp] theorem State.pull16_flag (s : State) (f : Flag) : s.pull16.2.flag f = s.flag f := rfl

end Sys2Proof.Machine
end

