-- ==== Sys2Proof/Laws/Memory.lean ====
section
/-! SUPPORT. Laws of memory: a read after a write, what a write leaves alone, and that every memory operation keeps the
canonical form. -/

namespace Sys2Proof.Machine

namespace Memory

@[simp] theorem read_nil (addr : Nat) : Memory.read [] addr = unlistedByte := rfl

theorem read_erase (m : Memory) (addr b : Nat) :
    (m.erase addr).read b = if b = addr then unlistedByte else m.read b := by
  induction m with
  | nil => simp [Memory.erase]
  | cons c rest ih =>
    obtain ⟨k, v⟩ := c
    simp only [Memory.erase]
    by_cases hk : k = addr
    · subst hk
      by_cases hb : b = k
      · simpa [hb] using ih
      · have : k ≠ b := fun h => hb h.symm
        simpa [hb, Memory.read, this] using ih
    · by_cases hb : k = b
      · subst hb
        simp [hk, Memory.read]
      · simp [hk, Memory.read, hb, ih]

theorem read_insert (m : Memory) (addr b : Nat) (v : Byte) (h : ∀ c ∈ m, c.1 ≠ addr) :
    (m.insert addr v).read b = if b = addr then v else m.read b := by
  induction m with
  | nil =>
    by_cases hb : b = addr
    · simp [Memory.insert, Memory.read, hb]
    · have : addr ≠ b := fun h => hb h.symm
      simp [Memory.insert, Memory.read, hb, this]
  | cons c rest ih =>
    obtain ⟨k, w⟩ := c
    have hk : k ≠ addr := h (k, w) (by simp)
    have ih := ih fun c hc => h c (by simp [hc])
    simp only [Memory.insert]
    by_cases hb : b = addr
    · subst hb
      split
      · simp [Memory.read]
      · simpa [Memory.read, hk] using ih
    · have : addr ≠ b := fun h => hb h.symm
      split
      · simp [Memory.read, this]
      · by_cases hkb : k = b
        · simp [Memory.read, hkb]
        · simpa [Memory.read, hkb, hb] using ih

theorem mem_erase {m : Memory} {addr : Nat} {c : Host.Cell} (h : c ∈ m.erase addr) : c ∈ m ∧ c.1 ≠ addr := by
  induction m with
  | nil => cases h
  | cons d rest ih =>
    obtain ⟨k, v⟩ := d
    simp only [Memory.erase] at h
    split at h
    · exact ⟨.tail _ (ih h).1, (ih h).2⟩
    · rcases List.mem_cons.1 h with rfl | h
      · exact ⟨by simp, ‹_›⟩
      · exact ⟨.tail _ (ih h).1, (ih h).2⟩

theorem mem_insert {m : Memory} {addr : Nat} {v : Byte} {c : Host.Cell} (h : c ∈ m.insert addr v) :
    c = (addr, v) ∨ c ∈ m := by
  induction m with
  | nil => simpa [Memory.insert] using h
  | cons d rest ih =>
    obtain ⟨k, w⟩ := d
    simp only [Memory.insert] at h
    split at h
    · simpa using h
    · rcases List.mem_cons.1 h with rfl | h
      · exact .inr (by simp)
      · rcases ih h with h | h
        · exact .inl h
        · exact .inr (by simp [h])

/-- What a store leaves at every address (20_memory.md R46). -/
@[simp] theorem read_write (m : Memory) (addr b : Nat) (v : Byte) :
    (m.write addr v).read b = if b = addr then v else m.read b := by
  unfold Memory.write
  split
  · rename_i hv
    rw [read_erase, hv]
  · rw [read_insert _ _ _ _ fun c hc => (mem_erase hc).2, read_erase]
    split <;> rfl

theorem erase_wf {m : Memory} (addr : Nat) (h : m.wf) : (m.erase addr).wf := by
  refine ⟨?_, fun c hc => h.2 c (mem_erase hc).1⟩
  have hp := h.1
  clear h
  induction m with
  | nil => simp [Memory.erase]
  | cons d rest ih =>
    obtain ⟨k, v⟩ := d
    rw [List.pairwise_cons] at hp
    simp only [Memory.erase]
    split
    · exact ih hp.2
    · exact List.pairwise_cons.2 ⟨fun c hc => hp.1 c (mem_erase hc).1, ih hp.2⟩

theorem insert_wf {m : Memory} {addr : Nat} {v : Byte} (h : m.wf) (hn : ∀ c ∈ m, c.1 ≠ addr) (ha : addr < memSize)
    (hv : v ≠ unlistedByte) : (m.insert addr v).wf := by
  refine ⟨?_, fun c hc => ?_⟩
  · have hp := h.1
    clear h
    induction m with
    | nil => simp [Memory.insert]
    | cons d rest ih =>
      obtain ⟨k, w⟩ := d
      rw [List.pairwise_cons] at hp
      have hk : k ≠ addr := hn (k, w) (by simp)
      simp only [Memory.insert]
      split
      · rename_i hlt
        refine List.pairwise_cons.2 ⟨fun c hc => ?_, List.pairwise_cons.2 hp⟩
        rcases List.mem_cons.1 hc with rfl | hc
        · exact hlt
        · exact Nat.lt_trans hlt (hp.1 c hc)
      · rename_i hlt
        refine List.pairwise_cons.2 ⟨fun c hc => ?_, ih (fun c hc => hn c (by simp [hc])) hp.2⟩
        rcases mem_insert hc with rfl | hc
        · have : ¬ addr < k := hlt
          show k < addr
          omega
        · exact hp.1 c hc
  · rcases mem_insert hc with rfl | hc
    · exact ⟨ha, hv⟩
    · exact h.2 c hc

/-- A store inside the address space keeps the canonical form. -/
theorem write_wf {m : Memory} {addr : Nat} (v : Byte) (h : m.wf) (ha : addr < memSize) : (m.write addr v).wf := by
  unfold Memory.write
  split
  · exact erase_wf addr h
  · exact insert_wf (erase_wf addr h) (fun c hc => (mem_erase hc).2) ha ‹_›

theorem nil_wf : Memory.wf [] := by decide

end Memory

theorem addr_lt_memSize (w : Addr) : w.toNat < memSize := w.isLt

/-- A store to an address keeps the canonical form: every address is inside the address space (20_memory.md R46). -/
theorem Memory.write_addr_wf {m : Memory} (w : Addr) (v : Byte) (h : m.wf) : (m.write w.toNat v).wf :=
  Memory.write_wf v h (addr_lt_memSize w)

/-- What `MemWrite` leaves at every address (20_memory.md R46). -/
@[simp] theorem State.setByte_byteAt (s : State) (addr k : Addr) (v : Byte) :
    (s.setByte addr v).byteAt k = if k = addr then v else s.byteAt k := by
  simp [State.byteAt, BitVec.toNat_inj]

/-- What a push leaves at every address (20_memory.md R52). -/
@[simp] theorem State.push_byteAt (s : State) (v : Byte) (k : Addr) :
    (s.push v).byteAt k = if k = stackAddr s.sp then v else s.byteAt k := by
  simp [State.push]

/-- What a 16-bit push leaves at every address (20_memory.md R54). -/
@[simp] theorem State.push16_byteAt (s : State) (w k : Addr) :
    (s.push16 w).byteAt k =
      if k = stackAddr (s.sp - 1) then loByte w else if k = stackAddr s.sp then hiByte w else s.byteAt k := by
  simp [State.push16]

/-- The stack bytes of two SP values are one byte only when the SP values are equal (10_state.md R24). -/
@[simp] theorem stackAddr_inj (m n : Byte) : stackAddr m = stackAddr n ↔ m = n := by
  constructor
  · intro h
    have h := congrArg BitVec.toNat h
    have hm := m.isLt
    have hn := n.isLt
    simp [stackAddr, zeroExtend16, BitVec.toNat_add, BitVec.toNat_setWidth] at h
    exact BitVec.eq_of_toNat_eq (by omega)
  · rintro rfl; rfl

end Sys2Proof.Machine
end

