-- ==== Sys2Proof/Laws/Flags.lean ====
section
/-! SUPPORT. Laws of the flags: what a flag reads after a flag write, SetZN, a compare and BIT. -/

namespace Sys2Proof.Machine

/-- A flag write changes that flag and no other (10_state.md R27). -/
@[simp] theorem getFlag_putFlag (p : Byte) (f g : Flag) (b : Bool) :
    getFlag (putFlag p f b) g = if g = f then b else getFlag p g := by
  cases b <;> cases f <;> cases g <;>
    simp [getFlag, putFlag, Flag.bit]

@[simp] theorem State.setFlag_flag (s : State) (f g : Flag) (b : Bool) :
    (s.setFlag f b).flag g = if g = f then b else s.flag g := getFlag_putFlag s.p f g b

/-- `SetZN` writes Z and N and nothing else (10_state.md R36). -/
@[simp] theorem State.setZN_flag (s : State) (v : Byte) (g : Flag) :
    (s.setZN v).flag g = if g = .n then v.getLsbD 7 else if g = .z then v == 0 else s.flag g := by
  simp [State.setZN]

/-- A compare writes C, Z and N (44_arith_compare.md R126). -/
@[simp] theorem State.setCompare_flag (s : State) (r v : Byte) (g : Flag) :
    (s.setCompare r v).flag g =
      if g = .n then (r - v).getLsbD 7 else if g = .z then r - v == 0
      else if g = .c then decide (v.toNat ≤ r.toNat) else s.flag g := by
  simp [State.setCompare]

/-- BIT writes Z, V and N (42_logical_bit.md R119). -/
@[simp] theorem State.setBitTest_flag (s : State) (v : Byte) (g : Flag) :
    (s.setBitTest v).flag g =
      if g = .n then v.getLsbD 7 else if g = .v then v.getLsbD 6
      else if g = .z then (s.a &&& v) == 0 else s.flag g := by
  simp [State.setBitTest]

@[simp] theorem State.setP_flag (s : State) (v : Byte) (g : Flag) : (s.setP v).flag g = getFlag v g := rfl

/-- Two status bytes with the same eight flags are equal: all eight bits are storage (10_state.md R26). -/
theorem status_ext {p q : Byte} (h : ∀ f, getFlag p f = getFlag q f) : p = q := by
  apply BitVec.eq_of_getLsbD_eq
  intro k hk
  match k, hk with
  | 0, _ => exact h .c
  | 1, _ => exact h .z
  | 2, _ => exact h .i
  | 3, _ => exact h .d
  | 4, _ => exact h .b
  | 5, _ => exact h .u
  | 6, _ => exact h .v
  | 7, _ => exact h .n

end Sys2Proof.Machine
end

