-- ==== Sys2Proof/Laws/Exec.lean ====
section
/-! SUPPORT. The meaning of a row is its mnemonic's shared operation, at the row's own opcode and mode: one lemma a mnemonic, so
that a proof about a mnemonic need not go through its rows. -/

namespace Sys2Proof.Machine

theorem exec_lda {i : Instr} {src : Source} (s : State) (hm : i.mnemonic = .lda) (h : i.mode = .source src) :
    exec i s = lda i.opcode src s := by
  cases i <;> first | (cases hm; done) | (cases h; done) | (cases h; rfl)

theorem exec_ldx {i : Instr} {src : Source} (s : State) (hm : i.mnemonic = .ldx) (h : i.mode = .source src) :
    exec i s = ldx i.opcode src s := by
  cases i <;> first | (cases hm; done) | (cases h; done) | (cases h; rfl)

theorem exec_ldy {i : Instr} {src : Source} (s : State) (hm : i.mnemonic = .ldy) (h : i.mode = .source src) :
    exec i s = ldy i.opcode src s := by
  cases i <;> first | (cases hm; done) | (cases h; done) | (cases h; rfl)

theorem exec_and {i : Instr} {src : Source} (s : State) (hm : i.mnemonic = .and) (h : i.mode = .source src) :
    exec i s = andA i.opcode src s := by
  cases i <;> first | (cases hm; done) | (cases h; done) | (cases h; rfl)

theorem exec_eor {i : Instr} {src : Source} (s : State) (hm : i.mnemonic = .eor) (h : i.mode = .source src) :
    exec i s = eorA i.opcode src s := by
  cases i <;> first | (cases hm; done) | (cases h; done) | (cases h; rfl)

theorem exec_ora {i : Instr} {src : Source} (s : State) (hm : i.mnemonic = .ora) (h : i.mode = .source src) :
    exec i s = oraA i.opcode src s := by
  cases i <;> first | (cases hm; done) | (cases h; done) | (cases h; rfl)

theorem exec_bit {i : Instr} {src : Source} (s : State) (hm : i.mnemonic = .bit) (h : i.mode = .source src) :
    exec i s = bitTest i.opcode src s := by
  cases i <;> first | (cases hm; done) | (cases h; done) | (cases h; rfl)

theorem exec_adc {i : Instr} {src : Source} (s : State) (hm : i.mnemonic = .adc) (h : i.mode = .source src) :
    exec i s = adc i.opcode src s := by
  cases i <;> first | (cases hm; done) | (cases h; done) | (cases h; rfl)

theorem exec_sbc {i : Instr} {src : Source} (s : State) (hm : i.mnemonic = .sbc) (h : i.mode = .source src) :
    exec i s = sbc i.opcode src s := by
  cases i <;> first | (cases hm; done) | (cases h; done) | (cases h; rfl)

theorem exec_cmp {i : Instr} {src : Source} (s : State) (hm : i.mnemonic = .cmp) (h : i.mode = .source src) :
    exec i s = cmp i.opcode src s := by
  cases i <;> first | (cases hm; done) | (cases h; done) | (cases h; rfl)

theorem exec_cpx {i : Instr} {src : Source} (s : State) (hm : i.mnemonic = .cpx) (h : i.mode = .source src) :
    exec i s = cpx i.opcode src s := by
  cases i <;> first | (cases hm; done) | (cases h; done) | (cases h; rfl)

theorem exec_cpy {i : Instr} {src : Source} (s : State) (hm : i.mnemonic = .cpy) (h : i.mode = .source src) :
    exec i s = cpy i.opcode src s := by
  cases i <;> first | (cases hm; done) | (cases h; done) | (cases h; rfl)

theorem exec_sta {i : Instr} {m : MemMode} (s : State) (hm : i.mnemonic = .sta) (h : i.mode = .source (.memory m)) :
    exec i s = sta i.opcode m s := by
  cases i <;> first | (cases hm; done) | (cases h; done) | (cases h; rfl)

theorem exec_stx {i : Instr} {m : MemMode} (s : State) (hm : i.mnemonic = .stx) (h : i.mode = .source (.memory m)) :
    exec i s = stx i.opcode m s := by
  cases i <;> first | (cases hm; done) | (cases h; done) | (cases h; rfl)

theorem exec_sty {i : Instr} {m : MemMode} (s : State) (hm : i.mnemonic = .sty) (h : i.mode = .source (.memory m)) :
    exec i s = sty i.opcode m s := by
  cases i <;> first | (cases hm; done) | (cases h; done) | (cases h; rfl)

theorem exec_inc {i : Instr} {m : MemMode} (s : State) (hm : i.mnemonic = .inc) (h : i.mode = .source (.memory m)) :
    exec i s = inc i.opcode m s := by
  cases i <;> first | (cases hm; done) | (cases h; done) | (cases h; rfl)

theorem exec_dec {i : Instr} {m : MemMode} (s : State) (hm : i.mnemonic = .dec) (h : i.mode = .source (.memory m)) :
    exec i s = dec i.opcode m s := by
  cases i <;> first | (cases hm; done) | (cases h; done) | (cases h; rfl)

theorem exec_jmp {i : Instr} {m : MemMode} (s : State) (hm : i.mnemonic = .jmp) (h : i.mode = .source (.memory m)) :
    exec i s = jump i.opcode m s := by
  cases i <;> first | (cases hm; done) | (cases h; done) | (cases h; rfl)

theorem exec_asl_accumulator {i : Instr} (s : State) (hm : i.mnemonic = .asl) (h : i.mode = .accumulator) :
    exec i s = shiftAccumulator i.opcode asl s := by
  cases i <;> first | (cases hm; done) | (cases h; done) | (cases h; rfl)

theorem exec_asl_memory {i : Instr} {m : MemMode} (s : State) (hm : i.mnemonic = .asl)
    (h : i.mode = .source (.memory m)) : exec i s = shiftMemory i.opcode asl m s := by
  cases i <;> first | (cases hm; done) | (cases h; done) | (cases h; rfl)

theorem exec_lsr_accumulator {i : Instr} (s : State) (hm : i.mnemonic = .lsr) (h : i.mode = .accumulator) :
    exec i s = shiftAccumulator i.opcode lsr s := by
  cases i <;> first | (cases hm; done) | (cases h; done) | (cases h; rfl)

theorem exec_lsr_memory {i : Instr} {m : MemMode} (s : State) (hm : i.mnemonic = .lsr)
    (h : i.mode = .source (.memory m)) : exec i s = shiftMemory i.opcode lsr m s := by
  cases i <;> first | (cases hm; done) | (cases h; done) | (cases h; rfl)

theorem exec_rol_accumulator {i : Instr} (s : State) (hm : i.mnemonic = .rol) (h : i.mode = .accumulator) :
    exec i s = shiftAccumulator i.opcode rol s := by
  cases i <;> first | (cases hm; done) | (cases h; done) | (cases h; rfl)

theorem exec_rol_memory {i : Instr} {m : MemMode} (s : State) (hm : i.mnemonic = .rol)
    (h : i.mode = .source (.memory m)) : exec i s = shiftMemory i.opcode rol m s := by
  cases i <;> first | (cases hm; done) | (cases h; done) | (cases h; rfl)

theorem exec_ror_accumulator {i : Instr} (s : State) (hm : i.mnemonic = .ror) (h : i.mode = .accumulator) :
    exec i s = shiftAccumulator i.opcode ror s := by
  cases i <;> first | (cases hm; done) | (cases h; done) | (cases h; rfl)

theorem exec_ror_memory {i : Instr} {m : MemMode} (s : State) (hm : i.mnemonic = .ror)
    (h : i.mode = .source (.memory m)) : exec i s = shiftMemory i.opcode ror m s := by
  cases i <;> first | (cases hm; done) | (cases h; done) | (cases h; rfl)

theorem exec_bpl {i : Instr} {d : Byte} (s : State) (hm : i.mnemonic = .bpl) (h : i.mode = .relative d) :
    exec i s = branch i.opcode (!s.flag .n) d s := by
  cases i <;> first | (cases hm; done) | (cases h; done) | (cases h; rfl)

theorem exec_bmi {i : Instr} {d : Byte} (s : State) (hm : i.mnemonic = .bmi) (h : i.mode = .relative d) :
    exec i s = branch i.opcode (s.flag .n) d s := by
  cases i <;> first | (cases hm; done) | (cases h; done) | (cases h; rfl)

theorem exec_bvc {i : Instr} {d : Byte} (s : State) (hm : i.mnemonic = .bvc) (h : i.mode = .relative d) :
    exec i s = branch i.opcode (!s.flag .v) d s := by
  cases i <;> first | (cases hm; done) | (cases h; done) | (cases h; rfl)

theorem exec_bvs {i : Instr} {d : Byte} (s : State) (hm : i.mnemonic = .bvs) (h : i.mode = .relative d) :
    exec i s = branch i.opcode (s.flag .v) d s := by
  cases i <;> first | (cases hm; done) | (cases h; done) | (cases h; rfl)

theorem exec_bcc {i : Instr} {d : Byte} (s : State) (hm : i.mnemonic = .bcc) (h : i.mode = .relative d) :
    exec i s = branch i.opcode (!s.flag .c) d s := by
  cases i <;> first | (cases hm; done) | (cases h; done) | (cases h; rfl)

theorem exec_bcs {i : Instr} {d : Byte} (s : State) (hm : i.mnemonic = .bcs) (h : i.mode = .relative d) :
    exec i s = branch i.opcode (s.flag .c) d s := by
  cases i <;> first | (cases hm; done) | (cases h; done) | (cases h; rfl)

theorem exec_bne {i : Instr} {d : Byte} (s : State) (hm : i.mnemonic = .bne) (h : i.mode = .relative d) :
    exec i s = branch i.opcode (!s.flag .z) d s := by
  cases i <;> first | (cases hm; done) | (cases h; done) | (cases h; rfl)

theorem exec_beq {i : Instr} {d : Byte} (s : State) (hm : i.mnemonic = .beq) (h : i.mode = .relative d) :
    exec i s = branch i.opcode (s.flag .z) d s := by
  cases i <;> first | (cases hm; done) | (cases h; done) | (cases h; rfl)

theorem exec_tax {i : Instr} (s : State) (hm : i.mnemonic = .tax) :
    exec i s = transfer i.opcode s.a State.setX s := by
  cases i <;> first | (cases hm; done) | rfl

theorem exec_tay {i : Instr} (s : State) (hm : i.mnemonic = .tay) :
    exec i s = transfer i.opcode s.a State.setY s := by
  cases i <;> first | (cases hm; done) | rfl

theorem exec_txa {i : Instr} (s : State) (hm : i.mnemonic = .txa) :
    exec i s = transfer i.opcode s.x State.setA s := by
  cases i <;> first | (cases hm; done) | rfl

theorem exec_tya {i : Instr} (s : State) (hm : i.mnemonic = .tya) :
    exec i s = transfer i.opcode s.y State.setA s := by
  cases i <;> first | (cases hm; done) | rfl

theorem exec_tsx {i : Instr} (s : State) (hm : i.mnemonic = .tsx) :
    exec i s = transfer i.opcode s.sp State.setX s := by
  cases i <;> first | (cases hm; done) | rfl

theorem exec_inx {i : Instr} (s : State) (hm : i.mnemonic = .inx) :
    exec i s = transfer i.opcode (s.x + 1) State.setX s := by
  cases i <;> first | (cases hm; done) | rfl

theorem exec_iny {i : Instr} (s : State) (hm : i.mnemonic = .iny) :
    exec i s = transfer i.opcode (s.y + 1) State.setY s := by
  cases i <;> first | (cases hm; done) | rfl

theorem exec_dex {i : Instr} (s : State) (hm : i.mnemonic = .dex) :
    exec i s = transfer i.opcode (s.x - 1) State.setX s := by
  cases i <;> first | (cases hm; done) | rfl

theorem exec_dey {i : Instr} (s : State) (hm : i.mnemonic = .dey) :
    exec i s = transfer i.opcode (s.y - 1) State.setY s := by
  cases i <;> first | (cases hm; done) | rfl

theorem exec_txs {i : Instr} (s : State) (hm : i.mnemonic = .txs) :
    exec i s = finish i.opcode 0 ((s.advance 1).setSp s.x) := by
  cases i <;> first | (cases hm; done) | rfl

theorem exec_pha {i : Instr} (s : State) (hm : i.mnemonic = .pha) :
    exec i s = pushByte i.opcode s.a s := by
  cases i <;> first | (cases hm; done) | rfl

theorem exec_php {i : Instr} (s : State) (hm : i.mnemonic = .php) :
    exec i s = pushByte i.opcode s.p s := by
  cases i <;> first | (cases hm; done) | rfl

theorem exec_pla {i : Instr} (s : State) (hm : i.mnemonic = .pla) :
    exec i s = pullInto i.opcode (fun v t => (t.setA v).setZN v) s := by
  cases i <;> first | (cases hm; done) | rfl

theorem exec_plp {i : Instr} (s : State) (hm : i.mnemonic = .plp) :
    exec i s = pullInto i.opcode (fun v t => t.setP v) s := by
  cases i <;> first | (cases hm; done) | rfl

theorem exec_rts {i : Instr} (s : State) (hm : i.mnemonic = .rts) :
    exec i s = returnFromSubroutine i.opcode s := by
  cases i <;> first | (cases hm; done) | rfl

theorem exec_clc {i : Instr} (s : State) (hm : i.mnemonic = .clc) :
    exec i s = writeFlag i.opcode .c false s := by
  cases i <;> first | (cases hm; done) | rfl

theorem exec_sec {i : Instr} (s : State) (hm : i.mnemonic = .sec) :
    exec i s = writeFlag i.opcode .c true s := by
  cases i <;> first | (cases hm; done) | rfl

theorem exec_cli {i : Instr} (s : State) (hm : i.mnemonic = .cli) :
    exec i s = writeFlag i.opcode .i false s := by
  cases i <;> first | (cases hm; done) | rfl

theorem exec_sei {i : Instr} (s : State) (hm : i.mnemonic = .sei) :
    exec i s = writeFlag i.opcode .i true s := by
  cases i <;> first | (cases hm; done) | rfl

theorem exec_clv {i : Instr} (s : State) (hm : i.mnemonic = .clv) :
    exec i s = writeFlag i.opcode .v false s := by
  cases i <;> first | (cases hm; done) | rfl

theorem exec_cld {i : Instr} (s : State) (hm : i.mnemonic = .cld) :
    exec i s = writeFlag i.opcode .d false s := by
  cases i <;> first | (cases hm; done) | rfl

theorem exec_sed {i : Instr} (s : State) (hm : i.mnemonic = .sed) :
    exec i s = writeFlag i.opcode .d true s := by
  cases i <;> first | (cases hm; done) | rfl

theorem exec_nop {i : Instr} (s : State) (hm : i.mnemonic = .nop) :
    exec i s = finish i.opcode 0 (s.advance 1) := by
  cases i <;> first | (cases hm; done) | rfl

theorem exec_jsr (w : Addr) (s : State) : exec (.jsr w) s = callSubroutine (Instr.jsr w).opcode w s := rfl

end Sys2Proof.Machine
end

