-- ==== Sys2Proof/Laws/Ops.lean ====
section
/-! SUPPORT. One lemma for each shared operation that says once everything it can do: the state it answers when it answers next,
and when it answers anything else. -/

namespace Sys2Proof.Machine

@[simp] theorem finish_eq (op : Byte) (penalty : Nat) (s : State) :
    finish op penalty s = .next (s.charge (baseCost s.config op + penalty)) := rfl

theorem readOperand_eq (op : Byte) (src : Source) (effect : Byte → State → State) (s : State) :
    readOperand op src effect s =
      finish op (pagePenalty s.config op (operandCrossed s src))
        (effect (operand s src) (s.advance (1 + src.operandBytes.length))) := rfl

theorem storeByte_eq (op : Byte) (m : MemMode) (v : Byte) (s : State) :
    storeByte op m v s =
      .next (((s.advance (1 + m.operandBytes.length)).setByte (resolve s m).ea v).charge (baseCost s.config op)) := rfl

theorem transfer_eq (op : Byte) (v : Byte) (write : State → Byte → State) (s : State) :
    transfer op v write s = finish op 0 ((write (s.advance 1) v).setZN v) := rfl

theorem pushByte_eq (op : Byte) (v : Byte) (s : State) :
    pushByte op v s = .next (((s.advance 1).push v).charge (baseCost s.config op)) := rfl

theorem pullInto_eq (op : Byte) (effect : Byte → State → State) (s : State) :
    pullInto op effect s =
      finish op 0 (effect (s.byteAt (stackAddr (s.sp + 1))) ((s.advance 1).setSp (s.sp + 1))) := rfl

theorem jump_eq (op : Byte) (m : MemMode) (s : State) :
    jump op m s = .next ((s.setPc (resolve s m).ea).charge (baseCost s.config op)) := rfl

theorem callSubroutine_eq (op : Byte) (target : Addr) (s : State) :
    callSubroutine op target s =
      .next ((((s.advance 3).push16 (s.pc + 3 - 1)).setPc target).charge (baseCost s.config op)) := rfl

theorem returnFromSubroutine_eq (op : Byte) (s : State) :
    returnFromSubroutine op s =
      .next ((((s.advance 1).pull16.2).setPc (s.pull16.1 + 1)).charge (baseCost s.config op)) := rfl

theorem modifyMemory_eq (op : Byte) (m : MemMode) (compute : Byte → Byte) (s : State) :
    modifyMemory op m compute s =
      .next ((((s.advance (1 + m.operandBytes.length)).setByte (resolve s m).ea
        (compute (s.byteAt (resolve s m).ea))).setZN (compute (s.byteAt (resolve s m).ea))).charge
        (baseCost s.config op)) := rfl

theorem shiftAccumulator_eq (op : Byte) (shift : Byte → Bool → Byte × Bool) (s : State) :
    shiftAccumulator op shift s =
      .next (((((s.advance 1).setFlag .c (shift s.a (s.flag .c)).2).setA (shift s.a (s.flag .c)).1).setZN
        (shift s.a (s.flag .c)).1).charge (baseCost s.config op)) := rfl

theorem shiftMemory_eq (op : Byte) (shift : Byte → Bool → Byte × Bool) (m : MemMode) (s : State) :
    shiftMemory op shift m s =
      .next (((((s.advance (1 + m.operandBytes.length)).setFlag .c
        (shift (s.byteAt (resolve s m).ea) (s.flag .c)).2).setByte (resolve s m).ea
        (shift (s.byteAt (resolve s m).ea) (s.flag .c)).1).setZN
        (shift (s.byteAt (resolve s m).ea) (s.flag .c)).1).charge (baseCost s.config op)) := rfl

theorem branch_taken (op d : Byte) (s : State) :
    branch op true d s =
      .next ((s.setPc (s.pc + 2 + signExtend16 d)).charge (baseCost s.config op +
        branchPenalty s.config op (hiByte (s.pc + 2 + signExtend16 d) != hiByte (s.pc + 2)))) := rfl

theorem branch_not_taken (op d : Byte) (s : State) :
    branch op false d s = .next ((s.advance 2).charge (baseCost s.config op)) := rfl

theorem writeFlag_eq (op : Byte) (f : Flag) (value : Bool) (s : State) :
    writeFlag op f value s = .next (((s.advance 1).setFlag f value).charge (baseCost s.config op)) := rfl

theorem refusesDecimal_iff (s : State) :
    s.refusesDecimal = true ↔ s.flag .d = true ∧ s.config.decimalMode = .refuse := by
  simp [State.refusesDecimal]

theorem adc_eq (op : Byte) (src : Source) (s : State) :
    adc op src s =
      if s.refusesDecimal then .refused (.decimalArithmetic op s.pc) else accumulate op src addWithCarry s := rfl

theorem sbc_eq (op : Byte) (src : Source) (s : State) :
    sbc op src s =
      if s.refusesDecimal then .refused (.decimalArithmetic op s.pc) else accumulate op src subtractWithBorrow s := rfl

/-- A step is one of four things: stopped by the latch, a decode failure, or the meaning of the instruction at PC. -/
theorem step_cases (s : State) :
    (s.latched = true ∧ step s = .fault .halted) ∨
      (s.latched = false ∧ dispatch s.config.instructionSet (s.byteAt s.pc) = none ∧ step s = .next s.takeDecodeFailure) ∨
      ∃ i rest, s.latched = false ∧ decode s.config.instructionSet s.fetchBytes = .ok (i, rest) ∧ step s = exec i s := by
  cases hl : s.latched with
  | true => exact .inl ⟨rfl, by simp [step, hl]⟩
  | false =>
    cases hd : decode s.config.instructionSet s.fetchBytes with
    | error e => exact .inr (.inl ⟨rfl, (decode_three_error hd).2, by simp [step, hl, hd]⟩)
    | ok r => exact .inr (.inr ⟨r.1, r.2, rfl, rfl, by simp [step, hl, hd]⟩)

/-! ### Cycles -/

theorem baseCost_pos (c : Config) (op : Byte) : 1 ≤ baseCost c op := Nat.le_max_left ..

@[simp] theorem pagePenalty_not_crossed (c : Config) (op : Byte) : pagePenalty c op false = 0 := rfl

theorem pagePenalty_of_page {c : Config} {op : Byte} (h : penaltyClass c op = .page) (crossed : Bool) :
    pagePenalty c op crossed = bitValue crossed := by
  cases crossed <;> simp [pagePenalty, h, bitValue]

theorem branchPenalty_of_branch {c : Config} {op : Byte} (h : penaltyClass c op = .branch) (otherPage : Bool) :
    branchPenalty c op otherPage = if otherPage then 2 else 1 := by
  simp [branchPenalty, h]

/-- With no overriding rows an opcode's row is the default table's. -/
theorem cycleRow_default {c : Config} (h : c.cycleOverrides = []) (op : Byte) :
    cycleRow c op = cycleRow Config.default op := by
  simp [cycleRow, h, findRow, Config.default]

theorem baseCost_default {c : Config} (h : c.cycleOverrides = []) (op : Byte) :
    baseCost c op = baseCost Config.default op := by
  rw [baseCost, baseCost, cycleRow_default h]

theorem penaltyClass_default {c : Config} (h : c.cycleOverrides = []) (op : Byte) :
    penaltyClass c op = penaltyClass Config.default op := by
  rw [penaltyClass, penaltyClass, cycleRow_default h]

end Sys2Proof.Machine
end

