-- ==== Sys2Proof/Laws/PerInstr.lean ====
section
/-! SUPPORT. Facts stated for each instruction of Instr, one lemma a constructor. -/

namespace Sys2Proof.Laws.TableEntry

/-- The opcode map's entry at the instruction's own opcode carries the profile of its mnemonic, and builds the instruction back
from its operand bytes (30_encoding.md R81, R83 to R85). -/
def Statement (i : Instr) : Prop :=
  ∃ format, opcodeEntry i.opcode = some ⟨i.mnemonic.profile, format⟩ ∧ format.Builds i

theorem ldaImm (b : Byte) : Statement (.ldaImm b) :=
  ⟨.f2 .ldaImm, (rfl : opcodeEntry 0xA9 = _), b, rfl, rfl⟩
theorem ldaZp (b : Byte) : Statement (.ldaZp b) :=
  ⟨.f2 .ldaZp, (rfl : opcodeEntry 0xA5 = _), b, rfl, rfl⟩
theorem ldaZpX (b : Byte) : Statement (.ldaZpX b) :=
  ⟨.f2 .ldaZpX, (rfl : opcodeEntry 0xB5 = _), b, rfl, rfl⟩
theorem ldaAbs (w : Addr) : Statement (.ldaAbs w) :=
  ⟨.f3 .ldaAbs, (rfl : opcodeEntry 0xAD = _), w, rfl, rfl⟩
theorem ldaAbsX (w : Addr) : Statement (.ldaAbsX w) :=
  ⟨.f3 .ldaAbsX, (rfl : opcodeEntry 0xBD = _), w, rfl, rfl⟩
theorem ldaAbsY (w : Addr) : Statement (.ldaAbsY w) :=
  ⟨.f3 .ldaAbsY, (rfl : opcodeEntry 0xB9 = _), w, rfl, rfl⟩
theorem ldaIndX (b : Byte) : Statement (.ldaIndX b) :=
  ⟨.f2 .ldaIndX, (rfl : opcodeEntry 0xA1 = _), b, rfl, rfl⟩
theorem ldaIndY (b : Byte) : Statement (.ldaIndY b) :=
  ⟨.f2 .ldaIndY, (rfl : opcodeEntry 0xB1 = _), b, rfl, rfl⟩
theorem ldxImm (b : Byte) : Statement (.ldxImm b) :=
  ⟨.f2 .ldxImm, (rfl : opcodeEntry 0xA2 = _), b, rfl, rfl⟩
theorem ldxZp (b : Byte) : Statement (.ldxZp b) :=
  ⟨.f2 .ldxZp, (rfl : opcodeEntry 0xA6 = _), b, rfl, rfl⟩
theorem ldxZpY (b : Byte) : Statement (.ldxZpY b) :=
  ⟨.f2 .ldxZpY, (rfl : opcodeEntry 0xB6 = _), b, rfl, rfl⟩
theorem ldxAbs (w : Addr) : Statement (.ldxAbs w) :=
  ⟨.f3 .ldxAbs, (rfl : opcodeEntry 0xAE = _), w, rfl, rfl⟩
theorem ldxAbsY (w : Addr) : Statement (.ldxAbsY w) :=
  ⟨.f3 .ldxAbsY, (rfl : opcodeEntry 0xBE = _), w, rfl, rfl⟩
theorem ldyImm (b : Byte) : Statement (.ldyImm b) :=
  ⟨.f2 .ldyImm, (rfl : opcodeEntry 0xA0 = _), b, rfl, rfl⟩
theorem ldyZp (b : Byte) : Statement (.ldyZp b) :=
  ⟨.f2 .ldyZp, (rfl : opcodeEntry 0xA4 = _), b, rfl, rfl⟩
theorem ldyZpX (b : Byte) : Statement (.ldyZpX b) :=
  ⟨.f2 .ldyZpX, (rfl : opcodeEntry 0xB4 = _), b, rfl, rfl⟩
theorem ldyAbs (w : Addr) : Statement (.ldyAbs w) :=
  ⟨.f3 .ldyAbs, (rfl : opcodeEntry 0xAC = _), w, rfl, rfl⟩
theorem ldyAbsX (w : Addr) : Statement (.ldyAbsX w) :=
  ⟨.f3 .ldyAbsX, (rfl : opcodeEntry 0xBC = _), w, rfl, rfl⟩
theorem staZp (b : Byte) : Statement (.staZp b) :=
  ⟨.f2 .staZp, (rfl : opcodeEntry 0x85 = _), b, rfl, rfl⟩
theorem staZpX (b : Byte) : Statement (.staZpX b) :=
  ⟨.f2 .staZpX, (rfl : opcodeEntry 0x95 = _), b, rfl, rfl⟩
theorem staAbs (w : Addr) : Statement (.staAbs w) :=
  ⟨.f3 .staAbs, (rfl : opcodeEntry 0x8D = _), w, rfl, rfl⟩
theorem staAbsX (w : Addr) : Statement (.staAbsX w) :=
  ⟨.f3 .staAbsX, (rfl : opcodeEntry 0x9D = _), w, rfl, rfl⟩
theorem staAbsY (w : Addr) : Statement (.staAbsY w) :=
  ⟨.f3 .staAbsY, (rfl : opcodeEntry 0x99 = _), w, rfl, rfl⟩
theorem staIndX (b : Byte) : Statement (.staIndX b) :=
  ⟨.f2 .staIndX, (rfl : opcodeEntry 0x81 = _), b, rfl, rfl⟩
theorem staIndY (b : Byte) : Statement (.staIndY b) :=
  ⟨.f2 .staIndY, (rfl : opcodeEntry 0x91 = _), b, rfl, rfl⟩
theorem stxZp (b : Byte) : Statement (.stxZp b) :=
  ⟨.f2 .stxZp, (rfl : opcodeEntry 0x86 = _), b, rfl, rfl⟩
theorem stxZpY (b : Byte) : Statement (.stxZpY b) :=
  ⟨.f2 .stxZpY, (rfl : opcodeEntry 0x96 = _), b, rfl, rfl⟩
theorem stxAbs (w : Addr) : Statement (.stxAbs w) :=
  ⟨.f3 .stxAbs, (rfl : opcodeEntry 0x8E = _), w, rfl, rfl⟩
theorem styZp (b : Byte) : Statement (.styZp b) :=
  ⟨.f2 .styZp, (rfl : opcodeEntry 0x84 = _), b, rfl, rfl⟩
theorem styZpX (b : Byte) : Statement (.styZpX b) :=
  ⟨.f2 .styZpX, (rfl : opcodeEntry 0x94 = _), b, rfl, rfl⟩
theorem styAbs (w : Addr) : Statement (.styAbs w) :=
  ⟨.f3 .styAbs, (rfl : opcodeEntry 0x8C = _), w, rfl, rfl⟩
theorem tax : Statement .tax := ⟨.f1 .tax, (rfl : opcodeEntry 0xAA = _), rfl, rfl⟩
theorem tay : Statement .tay := ⟨.f1 .tay, (rfl : opcodeEntry 0xA8 = _), rfl, rfl⟩
theorem txa : Statement .txa := ⟨.f1 .txa, (rfl : opcodeEntry 0x8A = _), rfl, rfl⟩
theorem tya : Statement .tya := ⟨.f1 .tya, (rfl : opcodeEntry 0x98 = _), rfl, rfl⟩
theorem tsx : Statement .tsx := ⟨.f1 .tsx, (rfl : opcodeEntry 0xBA = _), rfl, rfl⟩
theorem txs : Statement .txs := ⟨.f1 .txs, (rfl : opcodeEntry 0x9A = _), rfl, rfl⟩
theorem pha : Statement .pha := ⟨.f1 .pha, (rfl : opcodeEntry 0x48 = _), rfl, rfl⟩
theorem php : Statement .php := ⟨.f1 .php, (rfl : opcodeEntry 0x08 = _), rfl, rfl⟩
theorem pla : Statement .pla := ⟨.f1 .pla, (rfl : opcodeEntry 0x68 = _), rfl, rfl⟩
theorem plp : Statement .plp := ⟨.f1 .plp, (rfl : opcodeEntry 0x28 = _), rfl, rfl⟩
theorem andImm (b : Byte) : Statement (.andImm b) :=
  ⟨.f2 .andImm, (rfl : opcodeEntry 0x29 = _), b, rfl, rfl⟩
theorem andZp (b : Byte) : Statement (.andZp b) :=
  ⟨.f2 .andZp, (rfl : opcodeEntry 0x25 = _), b, rfl, rfl⟩
theorem andZpX (b : Byte) : Statement (.andZpX b) :=
  ⟨.f2 .andZpX, (rfl : opcodeEntry 0x35 = _), b, rfl, rfl⟩
theorem andAbs (w : Addr) : Statement (.andAbs w) :=
  ⟨.f3 .andAbs, (rfl : opcodeEntry 0x2D = _), w, rfl, rfl⟩
theorem andAbsX (w : Addr) : Statement (.andAbsX w) :=
  ⟨.f3 .andAbsX, (rfl : opcodeEntry 0x3D = _), w, rfl, rfl⟩
theorem andAbsY (w : Addr) : Statement (.andAbsY w) :=
  ⟨.f3 .andAbsY, (rfl : opcodeEntry 0x39 = _), w, rfl, rfl⟩
theorem andIndX (b : Byte) : Statement (.andIndX b) :=
  ⟨.f2 .andIndX, (rfl : opcodeEntry 0x21 = _), b, rfl, rfl⟩
theorem andIndY (b : Byte) : Statement (.andIndY b) :=
  ⟨.f2 .andIndY, (rfl : opcodeEntry 0x31 = _), b, rfl, rfl⟩
theorem eorImm (b : Byte) : Statement (.eorImm b) :=
  ⟨.f2 .eorImm, (rfl : opcodeEntry 0x49 = _), b, rfl, rfl⟩
theorem eorZp (b : Byte) : Statement (.eorZp b) :=
  ⟨.f2 .eorZp, (rfl : opcodeEntry 0x45 = _), b, rfl, rfl⟩
theorem eorZpX (b : Byte) : Statement (.eorZpX b) :=
  ⟨.f2 .eorZpX, (rfl : opcodeEntry 0x55 = _), b, rfl, rfl⟩
theorem eorAbs (w : Addr) : Statement (.eorAbs w) :=
  ⟨.f3 .eorAbs, (rfl : opcodeEntry 0x4D = _), w, rfl, rfl⟩
theorem eorAbsX (w : Addr) : Statement (.eorAbsX w) :=
  ⟨.f3 .eorAbsX, (rfl : opcodeEntry 0x5D = _), w, rfl, rfl⟩
theorem eorAbsY (w : Addr) : Statement (.eorAbsY w) :=
  ⟨.f3 .eorAbsY, (rfl : opcodeEntry 0x59 = _), w, rfl, rfl⟩
theorem eorIndX (b : Byte) : Statement (.eorIndX b) :=
  ⟨.f2 .eorIndX, (rfl : opcodeEntry 0x41 = _), b, rfl, rfl⟩
theorem eorIndY (b : Byte) : Statement (.eorIndY b) :=
  ⟨.f2 .eorIndY, (rfl : opcodeEntry 0x51 = _), b, rfl, rfl⟩
theorem oraImm (b : Byte) : Statement (.oraImm b) :=
  ⟨.f2 .oraImm, (rfl : opcodeEntry 0x09 = _), b, rfl, rfl⟩
theorem oraZp (b : Byte) : Statement (.oraZp b) :=
  ⟨.f2 .oraZp, (rfl : opcodeEntry 0x05 = _), b, rfl, rfl⟩
theorem oraZpX (b : Byte) : Statement (.oraZpX b) :=
  ⟨.f2 .oraZpX, (rfl : opcodeEntry 0x15 = _), b, rfl, rfl⟩
theorem oraAbs (w : Addr) : Statement (.oraAbs w) :=
  ⟨.f3 .oraAbs, (rfl : opcodeEntry 0x0D = _), w, rfl, rfl⟩
theorem oraAbsX (w : Addr) : Statement (.oraAbsX w) :=
  ⟨.f3 .oraAbsX, (rfl : opcodeEntry 0x1D = _), w, rfl, rfl⟩
theorem oraAbsY (w : Addr) : Statement (.oraAbsY w) :=
  ⟨.f3 .oraAbsY, (rfl : opcodeEntry 0x19 = _), w, rfl, rfl⟩
theorem oraIndX (b : Byte) : Statement (.oraIndX b) :=
  ⟨.f2 .oraIndX, (rfl : opcodeEntry 0x01 = _), b, rfl, rfl⟩
theorem oraIndY (b : Byte) : Statement (.oraIndY b) :=
  ⟨.f2 .oraIndY, (rfl : opcodeEntry 0x11 = _), b, rfl, rfl⟩
theorem bitZp (b : Byte) : Statement (.bitZp b) :=
  ⟨.f2 .bitZp, (rfl : opcodeEntry 0x24 = _), b, rfl, rfl⟩
theorem bitAbs (w : Addr) : Statement (.bitAbs w) :=
  ⟨.f3 .bitAbs, (rfl : opcodeEntry 0x2C = _), w, rfl, rfl⟩
theorem jmpAbs (w : Addr) : Statement (.jmpAbs w) :=
  ⟨.f3 .jmpAbs, (rfl : opcodeEntry 0x4C = _), w, rfl, rfl⟩
theorem jmpInd (w : Addr) : Statement (.jmpInd w) :=
  ⟨.f3 .jmpInd, (rfl : opcodeEntry 0x6C = _), w, rfl, rfl⟩
theorem jsr (w : Addr) : Statement (.jsr w) :=
  ⟨.f3 .jsr, (rfl : opcodeEntry 0x20 = _), w, rfl, rfl⟩
theorem rts : Statement .rts := ⟨.f1 .rts, (rfl : opcodeEntry 0x60 = _), rfl, rfl⟩
theorem adcImm (b : Byte) : Statement (.adcImm b) :=
  ⟨.f2 .adcImm, (rfl : opcodeEntry 0x69 = _), b, rfl, rfl⟩
theorem adcZp (b : Byte) : Statement (.adcZp b) :=
  ⟨.f2 .adcZp, (rfl : opcodeEntry 0x65 = _), b, rfl, rfl⟩
theorem adcZpX (b : Byte) : Statement (.adcZpX b) :=
  ⟨.f2 .adcZpX, (rfl : opcodeEntry 0x75 = _), b, rfl, rfl⟩
theorem adcAbs (w : Addr) : Statement (.adcAbs w) :=
  ⟨.f3 .adcAbs, (rfl : opcodeEntry 0x6D = _), w, rfl, rfl⟩
theorem adcAbsX (w : Addr) : Statement (.adcAbsX w) :=
  ⟨.f3 .adcAbsX, (rfl : opcodeEntry 0x7D = _), w, rfl, rfl⟩
theorem adcAbsY (w : Addr) : Statement (.adcAbsY w) :=
  ⟨.f3 .adcAbsY, (rfl : opcodeEntry 0x79 = _), w, rfl, rfl⟩
theorem adcIndX (b : Byte) : Statement (.adcIndX b) :=
  ⟨.f2 .adcIndX, (rfl : opcodeEntry 0x61 = _), b, rfl, rfl⟩
theorem adcIndY (b : Byte) : Statement (.adcIndY b) :=
  ⟨.f2 .adcIndY, (rfl : opcodeEntry 0x71 = _), b, rfl, rfl⟩
theorem sbcImm (b : Byte) : Statement (.sbcImm b) :=
  ⟨.f2 .sbcImm, (rfl : opcodeEntry 0xE9 = _), b, rfl, rfl⟩
theorem sbcZp (b : Byte) : Statement (.sbcZp b) :=
  ⟨.f2 .sbcZp, (rfl : opcodeEntry 0xE5 = _), b, rfl, rfl⟩
theorem sbcZpX (b : Byte) : Statement (.sbcZpX b) :=
  ⟨.f2 .sbcZpX, (rfl : opcodeEntry 0xF5 = _), b, rfl, rfl⟩
theorem sbcAbs (w : Addr) : Statement (.sbcAbs w) :=
  ⟨.f3 .sbcAbs, (rfl : opcodeEntry 0xED = _), w, rfl, rfl⟩
theorem sbcAbsX (w : Addr) : Statement (.sbcAbsX w) :=
  ⟨.f3 .sbcAbsX, (rfl : opcodeEntry 0xFD = _), w, rfl, rfl⟩
theorem sbcAbsY (w : Addr) : Statement (.sbcAbsY w) :=
  ⟨.f3 .sbcAbsY, (rfl : opcodeEntry 0xF9 = _), w, rfl, rfl⟩
theorem sbcIndX (b : Byte) : Statement (.sbcIndX b) :=
  ⟨.f2 .sbcIndX, (rfl : opcodeEntry 0xE1 = _), b, rfl, rfl⟩
theorem sbcIndY (b : Byte) : Statement (.sbcIndY b) :=
  ⟨.f2 .sbcIndY, (rfl : opcodeEntry 0xF1 = _), b, rfl, rfl⟩
theorem cmpImm (b : Byte) : Statement (.cmpImm b) :=
  ⟨.f2 .cmpImm, (rfl : opcodeEntry 0xC9 = _), b, rfl, rfl⟩
theorem cmpZp (b : Byte) : Statement (.cmpZp b) :=
  ⟨.f2 .cmpZp, (rfl : opcodeEntry 0xC5 = _), b, rfl, rfl⟩
theorem cmpZpX (b : Byte) : Statement (.cmpZpX b) :=
  ⟨.f2 .cmpZpX, (rfl : opcodeEntry 0xD5 = _), b, rfl, rfl⟩
theorem cmpAbs (w : Addr) : Statement (.cmpAbs w) :=
  ⟨.f3 .cmpAbs, (rfl : opcodeEntry 0xCD = _), w, rfl, rfl⟩
theorem cmpAbsX (w : Addr) : Statement (.cmpAbsX w) :=
  ⟨.f3 .cmpAbsX, (rfl : opcodeEntry 0xDD = _), w, rfl, rfl⟩
theorem cmpAbsY (w : Addr) : Statement (.cmpAbsY w) :=
  ⟨.f3 .cmpAbsY, (rfl : opcodeEntry 0xD9 = _), w, rfl, rfl⟩
theorem cmpIndX (b : Byte) : Statement (.cmpIndX b) :=
  ⟨.f2 .cmpIndX, (rfl : opcodeEntry 0xC1 = _), b, rfl, rfl⟩
theorem cmpIndY (b : Byte) : Statement (.cmpIndY b) :=
  ⟨.f2 .cmpIndY, (rfl : opcodeEntry 0xD1 = _), b, rfl, rfl⟩
theorem cpxImm (b : Byte) : Statement (.cpxImm b) :=
  ⟨.f2 .cpxImm, (rfl : opcodeEntry 0xE0 = _), b, rfl, rfl⟩
theorem cpxZp (b : Byte) : Statement (.cpxZp b) :=
  ⟨.f2 .cpxZp, (rfl : opcodeEntry 0xE4 = _), b, rfl, rfl⟩
theorem cpxAbs (w : Addr) : Statement (.cpxAbs w) :=
  ⟨.f3 .cpxAbs, (rfl : opcodeEntry 0xEC = _), w, rfl, rfl⟩
theorem cpyImm (b : Byte) : Statement (.cpyImm b) :=
  ⟨.f2 .cpyImm, (rfl : opcodeEntry 0xC0 = _), b, rfl, rfl⟩
theorem cpyZp (b : Byte) : Statement (.cpyZp b) :=
  ⟨.f2 .cpyZp, (rfl : opcodeEntry 0xC4 = _), b, rfl, rfl⟩
theorem cpyAbs (w : Addr) : Statement (.cpyAbs w) :=
  ⟨.f3 .cpyAbs, (rfl : opcodeEntry 0xCC = _), w, rfl, rfl⟩
theorem incZp (b : Byte) : Statement (.incZp b) :=
  ⟨.f2 .incZp, (rfl : opcodeEntry 0xE6 = _), b, rfl, rfl⟩
theorem incZpX (b : Byte) : Statement (.incZpX b) :=
  ⟨.f2 .incZpX, (rfl : opcodeEntry 0xF6 = _), b, rfl, rfl⟩
theorem incAbs (w : Addr) : Statement (.incAbs w) :=
  ⟨.f3 .incAbs, (rfl : opcodeEntry 0xEE = _), w, rfl, rfl⟩
theorem incAbsX (w : Addr) : Statement (.incAbsX w) :=
  ⟨.f3 .incAbsX, (rfl : opcodeEntry 0xFE = _), w, rfl, rfl⟩
theorem decZp (b : Byte) : Statement (.decZp b) :=
  ⟨.f2 .decZp, (rfl : opcodeEntry 0xC6 = _), b, rfl, rfl⟩
theorem decZpX (b : Byte) : Statement (.decZpX b) :=
  ⟨.f2 .decZpX, (rfl : opcodeEntry 0xD6 = _), b, rfl, rfl⟩
theorem decAbs (w : Addr) : Statement (.decAbs w) :=
  ⟨.f3 .decAbs, (rfl : opcodeEntry 0xCE = _), w, rfl, rfl⟩
theorem decAbsX (w : Addr) : Statement (.decAbsX w) :=
  ⟨.f3 .decAbsX, (rfl : opcodeEntry 0xDE = _), w, rfl, rfl⟩
theorem inx : Statement .inx := ⟨.f1 .inx, (rfl : opcodeEntry 0xE8 = _), rfl, rfl⟩
theorem iny : Statement .iny := ⟨.f1 .iny, (rfl : opcodeEntry 0xC8 = _), rfl, rfl⟩
theorem dex : Statement .dex := ⟨.f1 .dex, (rfl : opcodeEntry 0xCA = _), rfl, rfl⟩
theorem dey : Statement .dey := ⟨.f1 .dey, (rfl : opcodeEntry 0x88 = _), rfl, rfl⟩
theorem aslAcc : Statement .aslAcc := ⟨.f1 .aslAcc, (rfl : opcodeEntry 0x0A = _), rfl, rfl⟩
theorem aslZp (b : Byte) : Statement (.aslZp b) :=
  ⟨.f2 .aslZp, (rfl : opcodeEntry 0x06 = _), b, rfl, rfl⟩
theorem aslZpX (b : Byte) : Statement (.aslZpX b) :=
  ⟨.f2 .aslZpX, (rfl : opcodeEntry 0x16 = _), b, rfl, rfl⟩
theorem aslAbs (w : Addr) : Statement (.aslAbs w) :=
  ⟨.f3 .aslAbs, (rfl : opcodeEntry 0x0E = _), w, rfl, rfl⟩
theorem aslAbsX (w : Addr) : Statement (.aslAbsX w) :=
  ⟨.f3 .aslAbsX, (rfl : opcodeEntry 0x1E = _), w, rfl, rfl⟩
theorem lsrAcc : Statement .lsrAcc := ⟨.f1 .lsrAcc, (rfl : opcodeEntry 0x4A = _), rfl, rfl⟩
theorem lsrZp (b : Byte) : Statement (.lsrZp b) :=
  ⟨.f2 .lsrZp, (rfl : opcodeEntry 0x46 = _), b, rfl, rfl⟩
theorem lsrZpX (b : Byte) : Statement (.lsrZpX b) :=
  ⟨.f2 .lsrZpX, (rfl : opcodeEntry 0x56 = _), b, rfl, rfl⟩
theorem lsrAbs (w : Addr) : Statement (.lsrAbs w) :=
  ⟨.f3 .lsrAbs, (rfl : opcodeEntry 0x4E = _), w, rfl, rfl⟩
theorem lsrAbsX (w : Addr) : Statement (.lsrAbsX w) :=
  ⟨.f3 .lsrAbsX, (rfl : opcodeEntry 0x5E = _), w, rfl, rfl⟩
theorem rolAcc : Statement .rolAcc := ⟨.f1 .rolAcc, (rfl : opcodeEntry 0x2A = _), rfl, rfl⟩
theorem rolZp (b : Byte) : Statement (.rolZp b) :=
  ⟨.f2 .rolZp, (rfl : opcodeEntry 0x26 = _), b, rfl, rfl⟩
theorem rolZpX (b : Byte) : Statement (.rolZpX b) :=
  ⟨.f2 .rolZpX, (rfl : opcodeEntry 0x36 = _), b, rfl, rfl⟩
theorem rolAbs (w : Addr) : Statement (.rolAbs w) :=
  ⟨.f3 .rolAbs, (rfl : opcodeEntry 0x2E = _), w, rfl, rfl⟩
theorem rolAbsX (w : Addr) : Statement (.rolAbsX w) :=
  ⟨.f3 .rolAbsX, (rfl : opcodeEntry 0x3E = _), w, rfl, rfl⟩
theorem rorAcc : Statement .rorAcc := ⟨.f1 .rorAcc, (rfl : opcodeEntry 0x6A = _), rfl, rfl⟩
theorem rorZp (b : Byte) : Statement (.rorZp b) :=
  ⟨.f2 .rorZp, (rfl : opcodeEntry 0x66 = _), b, rfl, rfl⟩
theorem rorZpX (b : Byte) : Statement (.rorZpX b) :=
  ⟨.f2 .rorZpX, (rfl : opcodeEntry 0x76 = _), b, rfl, rfl⟩
theorem rorAbs (w : Addr) : Statement (.rorAbs w) :=
  ⟨.f3 .rorAbs, (rfl : opcodeEntry 0x6E = _), w, rfl, rfl⟩
theorem rorAbsX (w : Addr) : Statement (.rorAbsX w) :=
  ⟨.f3 .rorAbsX, (rfl : opcodeEntry 0x7E = _), w, rfl, rfl⟩
theorem bpl (d : Byte) : Statement (.bpl d) :=
  ⟨.f2 .bpl, (rfl : opcodeEntry 0x10 = _), d, rfl, rfl⟩
theorem bmi (d : Byte) : Statement (.bmi d) :=
  ⟨.f2 .bmi, (rfl : opcodeEntry 0x30 = _), d, rfl, rfl⟩
theorem bvc (d : Byte) : Statement (.bvc d) :=
  ⟨.f2 .bvc, (rfl : opcodeEntry 0x50 = _), d, rfl, rfl⟩
theorem bvs (d : Byte) : Statement (.bvs d) :=
  ⟨.f2 .bvs, (rfl : opcodeEntry 0x70 = _), d, rfl, rfl⟩
theorem bcc (d : Byte) : Statement (.bcc d) :=
  ⟨.f2 .bcc, (rfl : opcodeEntry 0x90 = _), d, rfl, rfl⟩
theorem bcs (d : Byte) : Statement (.bcs d) :=
  ⟨.f2 .bcs, (rfl : opcodeEntry 0xB0 = _), d, rfl, rfl⟩
theorem bne (d : Byte) : Statement (.bne d) :=
  ⟨.f2 .bne, (rfl : opcodeEntry 0xD0 = _), d, rfl, rfl⟩
theorem beq (d : Byte) : Statement (.beq d) :=
  ⟨.f2 .beq, (rfl : opcodeEntry 0xF0 = _), d, rfl, rfl⟩
theorem clc : Statement .clc := ⟨.f1 .clc, (rfl : opcodeEntry 0x18 = _), rfl, rfl⟩
theorem sec : Statement .sec := ⟨.f1 .sec, (rfl : opcodeEntry 0x38 = _), rfl, rfl⟩
theorem cli : Statement .cli := ⟨.f1 .cli, (rfl : opcodeEntry 0x58 = _), rfl, rfl⟩
theorem sei : Statement .sei := ⟨.f1 .sei, (rfl : opcodeEntry 0x78 = _), rfl, rfl⟩
theorem clv : Statement .clv := ⟨.f1 .clv, (rfl : opcodeEntry 0xB8 = _), rfl, rfl⟩
theorem cld : Statement .cld := ⟨.f1 .cld, (rfl : opcodeEntry 0xD8 = _), rfl, rfl⟩
theorem sed : Statement .sed := ⟨.f1 .sed, (rfl : opcodeEntry 0xF8 = _), rfl, rfl⟩
theorem nop : Statement .nop := ⟨.f1 .nop, (rfl : opcodeEntry 0xEA = _), rfl, rfl⟩

end Sys2Proof.Laws.TableEntry
end

