-- ==== Sys2Proof/Laws/Steps.lean ====
section
/-! SUPPORT. What every instruction can and cannot do, once for all 149 meanings: it never faults, it is refused only as R172 of
60_exceptions.md says, it leaves the engine's own fields alone, and it keeps memory's canonical form. -/

namespace Sys2Proof.Machine

/-- No meaning faults (60_exceptions.md R174). -/
theorem exec_ne_fault (i : Instr) (s : State) (r : Fault) : exec i s ≠ .fault r := by
  intro h
  cases i <;> first
    | (cases h)
    | (change (if _ then _ else _) = _ at h; split at h <;> cases h)

/-- A meaning is refused only at ADC or SBC with D = 1 under DECIMAL_MODE = REFUSE (60_exceptions.md R172). -/
theorem exec_refused_iff (i : Instr) (s : State) (r : Refusal) :
    exec i s = .refused r ↔
      s.refusesDecimal = true ∧ i.mnemonic ∈ [Mnemonic.adc, .sbc] ∧ r = .decimalArithmetic i.opcode s.pc := by
  refine ⟨fun h => ?_, fun h => ?_⟩
  · cases i <;> first
      | (cases h)
      | (change (if State.refusesDecimal s = true then _ else _) = _ at h
         split at h
         · cases h; exact ⟨‹_›, by simp [Instr.mnemonic], rfl⟩
         · cases h)
      | (change (if _ then _ else _) = _ at h; split at h <;> cases h)
  · obtain ⟨hd, hm, rfl⟩ := h
    cases i <;> first
      | (simp [Instr.mnemonic] at hm; done)
      | (change (if _ then _ else _) = _; rw [if_pos hd]; rfl)

/-- An instruction leaves the latch, the call's budget and reports, and the parameters alone. -/
theorem exec_engine {i : Instr} {s t : State} (h : exec i s = .next t) :
    t.halted = s.halted ∧ t.budget = s.budget ∧ t.reports = s.reports ∧ t.config = s.config := by
  cases i <;> first
    | (cases h; simp)
    | (change (if _ then _ else _) = _ at h; split at h <;> cases h <;> simp)

/-- An instruction keeps memory's canonical form. -/
theorem exec_mem_wf {i : Instr} {s t : State} (h : exec i s = .next t) (hm : s.mem.wf) : t.mem.wf := by
  cases i <;> first
    | (cases h; simp
       first
        | exact Memory.write_addr_wf _ _ (Memory.write_addr_wf _ _ hm)
        | exact Memory.write_addr_wf _ _ hm
        | exact hm)
    | (change (if _ then _ else _) = _ at h; split at h <;> cases h <;> (simp; exact hm))

/-! ### Runs -/

/-- A machine reaches itself. -/
theorem Reaches.refl (s : State) : Reaches s s := ⟨0, rfl⟩

/-- A run whose first step gives a next state goes on from there. -/
theorem run_succ {s v : State} (n : Nat) (h : step s = .next v) :
    Sys2Proof.core.run (n + 1) s = Sys2Proof.core.run n v := by
  have h : Sys2Proof.core.step s = .next v := h
  simp only [Host.Core.run, h]

/-- A run of at least one step that gives a state had a first step that gave one. -/
theorem run_succ_next {s u : State} {n : Nat} (h : Sys2Proof.core.run (n + 1) s = .next u) : ∃ v, step s = .next v := by
  cases hv : step s with
  | next v => exact ⟨v, rfl⟩
  | fault r =>
    have hv : Sys2Proof.core.step s = .fault r := hv
    simp only [Host.Core.run, hv] at h
    cases h
  | refused r =>
    have hv : Sys2Proof.core.step s = .refused r := hv
    simp only [Host.Core.run, hv] at h
    cases h

/-- One more step from a reached state reaches its next state. -/
theorem Reaches.tail {s u t : State} (h : Reaches s u) (ht : step u = .next t) : Reaches s t := by
  obtain ⟨n, hn⟩ := h
  refine ⟨n + 1, ?_⟩
  induction n generalizing s with
  | zero => cases hn; exact run_succ 0 ht
  | succ n ih =>
    obtain ⟨v, hv⟩ := run_succ_next hn
    rw [run_succ n hv] at hn
    rw [run_succ (n + 1) hv]
    exact ih hn

end Sys2Proof.Machine
end

