-- ==== Sys2Proof/Tests/Slice0.lean ====
section
/-! SUPPORT. Tests: what WellFormed refuses, the encodings written out, one-step vectors, and a witness for every obligation that
has hypotheses. The expected results are the spec's: spec/opcode_table.json for the encodings, 95_test_vectors.md for the steps. -/

namespace Sys2Proof.Machine.Tests

/-! ### WellFormed: the one check is the profile (00_scope.md R2) -/

theorem test_wf_refuses_full_under_doc : (Instr.inx).wf .doc = false ∧ (Instr.adcImm 0x01).wf .doc = false ∧
    (Instr.bne 0xFE).wf .doc = false ∧ Instr.nop.wf .doc = false := by decide

theorem test_wf_admits : Instr.rts.wf .doc = true ∧ (Instr.jmpInd 0xFFFF).wf .doc = true ∧ Instr.inx.wf .full = true := by decide

/-! ### Decoding, by the words of the opcode table -/

/-- Every listed word decodes to the listed instruction, with nothing left over. -/
abbrev decodesTo (words : List (List Byte × Instr)) : Prop := ∀ r ∈ words, decode .full r.1 = .ok (r.2, [])

/-- The encodings of LDA, LDX, LDY, STA, STX, STY, as `spec/opcode_table.json` prints them. -/
theorem test_decode_load_store : decodesTo (
    [([0b10101001, 0x9C], .ldaImm 0x9C), ([0b10100101, 0x9C], .ldaZp 0x9C), ([0b10110101, 0x9C], .ldaZpX 0x9C),
     ([0b10101101, 0x34, 0x12], .ldaAbs 0x1234), ([0b10111101, 0x34, 0x12], .ldaAbsX 0x1234),
     ([0b10111001, 0x34, 0x12], .ldaAbsY 0x1234), ([0b10100001, 0x9C], .ldaIndX 0x9C),
     ([0b10110001, 0x9C], .ldaIndY 0x9C), ([0b10100010, 0x9C], .ldxImm 0x9C), ([0b10100110, 0x9C], .ldxZp 0x9C),
     ([0b10110110, 0x9C], .ldxZpY 0x9C), ([0b10101110, 0x34, 0x12], .ldxAbs 0x1234),
     ([0b10111110, 0x34, 0x12], .ldxAbsY 0x1234), ([0b10100000, 0x9C], .ldyImm 0x9C),
     ([0b10100100, 0x9C], .ldyZp 0x9C)] ++
    [([0b10110100, 0x9C], .ldyZpX 0x9C), ([0b10101100, 0x34, 0x12], .ldyAbs 0x1234),
     ([0b10111100, 0x34, 0x12], .ldyAbsX 0x1234), ([0b10000101, 0x9C], .staZp 0x9C),
     ([0b10010101, 0x9C], .staZpX 0x9C), ([0b10001101, 0x34, 0x12], .staAbs 0x1234),
     ([0b10011101, 0x34, 0x12], .staAbsX 0x1234), ([0b10011001, 0x34, 0x12], .staAbsY 0x1234),
     ([0b10000001, 0x9C], .staIndX 0x9C), ([0b10010001, 0x9C], .staIndY 0x9C), ([0b10000110, 0x9C], .stxZp 0x9C),
     ([0b10010110, 0x9C], .stxZpY 0x9C), ([0b10001110, 0x34, 0x12], .stxAbs 0x1234),
     ([0b10000100, 0x9C], .styZp 0x9C), ([0b10010100, 0x9C], .styZpX 0x9C)] ++
    [([0b10001100, 0x34, 0x12], .styAbs 0x1234)]) := by decide

/-- The encodings of TAX, TAY, TXA, TYA, TSX, TXS, PHA, PHP, PLA, PLP, as `spec/opcode_table.json` prints them. -/
theorem test_decode_transfer_stack : decodesTo (
    [([0b10101010], .tax), ([0b10101000], .tay), ([0b10001010], .txa), ([0b10011000], .tya), ([0b10111010], .tsx),
     ([0b10011010], .txs), ([0b01001000], .pha), ([0b00001000], .php), ([0b01101000], .pla), ([0b00101000], .plp)]) := by decide

/-- The encodings of AND, EOR, ORA, BIT, as `spec/opcode_table.json` prints them. -/
theorem test_decode_logical_bit : decodesTo (
    [([0b00101001, 0x9C], .andImm 0x9C), ([0b00100101, 0x9C], .andZp 0x9C), ([0b00110101, 0x9C], .andZpX 0x9C),
     ([0b00101101, 0x34, 0x12], .andAbs 0x1234), ([0b00111101, 0x34, 0x12], .andAbsX 0x1234),
     ([0b00111001, 0x34, 0x12], .andAbsY 0x1234), ([0b00100001, 0x9C], .andIndX 0x9C),
     ([0b00110001, 0x9C], .andIndY 0x9C), ([0b01001001, 0x9C], .eorImm 0x9C), ([0b01000101, 0x9C], .eorZp 0x9C),
     ([0b01010101, 0x9C], .eorZpX 0x9C), ([0b01001101, 0x34, 0x12], .eorAbs 0x1234),
     ([0b01011101, 0x34, 0x12], .eorAbsX 0x1234), ([0b01011001, 0x34, 0x12], .eorAbsY 0x1234),
     ([0b01000001, 0x9C], .eorIndX 0x9C)] ++
    [([0b01010001, 0x9C], .eorIndY 0x9C), ([0b00001001, 0x9C], .oraImm 0x9C), ([0b00000101, 0x9C], .oraZp 0x9C),
     ([0b00010101, 0x9C], .oraZpX 0x9C), ([0b00001101, 0x34, 0x12], .oraAbs 0x1234),
     ([0b00011101, 0x34, 0x12], .oraAbsX 0x1234), ([0b00011001, 0x34, 0x12], .oraAbsY 0x1234),
     ([0b00000001, 0x9C], .oraIndX 0x9C), ([0b00010001, 0x9C], .oraIndY 0x9C), ([0b00100100, 0x9C], .bitZp 0x9C),
     ([0b00101100, 0x34, 0x12], .bitAbs 0x1234)]) := by decide

/-- The encodings of JMP, JSR, RTS, as `spec/opcode_table.json` prints them. -/
theorem test_decode_control : decodesTo (
    [([0b01001100, 0x34, 0x12], .jmpAbs 0x1234), ([0b01101100, 0x34, 0x12], .jmpInd 0x1234),
     ([0b00100000, 0x34, 0x12], .jsr 0x1234), ([0b01100000], .rts)]) := by decide

/-- The encodings of ADC, SBC, as `spec/opcode_table.json` prints them. -/
theorem test_decode_arithmetic : decodesTo (
    [([0b01101001, 0x9C], .adcImm 0x9C), ([0b01100101, 0x9C], .adcZp 0x9C), ([0b01110101, 0x9C], .adcZpX 0x9C),
     ([0b01101101, 0x34, 0x12], .adcAbs 0x1234), ([0b01111101, 0x34, 0x12], .adcAbsX 0x1234),
     ([0b01111001, 0x34, 0x12], .adcAbsY 0x1234), ([0b01100001, 0x9C], .adcIndX 0x9C),
     ([0b01110001, 0x9C], .adcIndY 0x9C), ([0b11101001, 0x9C], .sbcImm 0x9C), ([0b11100101, 0x9C], .sbcZp 0x9C),
     ([0b11110101, 0x9C], .sbcZpX 0x9C), ([0b11101101, 0x34, 0x12], .sbcAbs 0x1234),
     ([0b11111101, 0x34, 0x12], .sbcAbsX 0x1234), ([0b11111001, 0x34, 0x12], .sbcAbsY 0x1234),
     ([0b11100001, 0x9C], .sbcIndX 0x9C)] ++
    [([0b11110001, 0x9C], .sbcIndY 0x9C)]) := by decide

/-- The encodings of CMP, CPX, CPY, as `spec/opcode_table.json` prints them. -/
theorem test_decode_compare : decodesTo (
    [([0b11001001, 0x9C], .cmpImm 0x9C), ([0b11000101, 0x9C], .cmpZp 0x9C), ([0b11010101, 0x9C], .cmpZpX 0x9C),
     ([0b11001101, 0x34, 0x12], .cmpAbs 0x1234), ([0b11011101, 0x34, 0x12], .cmpAbsX 0x1234),
     ([0b11011001, 0x34, 0x12], .cmpAbsY 0x1234), ([0b11000001, 0x9C], .cmpIndX 0x9C),
     ([0b11010001, 0x9C], .cmpIndY 0x9C), ([0b11100000, 0x9C], .cpxImm 0x9C), ([0b11100100, 0x9C], .cpxZp 0x9C),
     ([0b11101100, 0x34, 0x12], .cpxAbs 0x1234), ([0b11000000, 0x9C], .cpyImm 0x9C),
     ([0b11000100, 0x9C], .cpyZp 0x9C), ([0b11001100, 0x34, 0x12], .cpyAbs 0x1234)]) := by decide

/-- The encodings of INC, DEC, INX, INY, DEX, DEY, as `spec/opcode_table.json` prints them. -/
theorem test_decode_incdec : decodesTo (
    [([0b11100110, 0x9C], .incZp 0x9C), ([0b11110110, 0x9C], .incZpX 0x9C),
     ([0b11101110, 0x34, 0x12], .incAbs 0x1234), ([0b11111110, 0x34, 0x12], .incAbsX 0x1234),
     ([0b11000110, 0x9C], .decZp 0x9C), ([0b11010110, 0x9C], .decZpX 0x9C),
     ([0b11001110, 0x34, 0x12], .decAbs 0x1234), ([0b11011110, 0x34, 0x12], .decAbsX 0x1234), ([0b11101000], .inx),
     ([0b11001000], .iny), ([0b11001010], .dex), ([0b10001000], .dey)]) := by decide

/-- The encodings of ASL, LSR, ROL, ROR, as `spec/opcode_table.json` prints them. -/
theorem test_decode_shift : decodesTo (
    [([0b00001010], .aslAcc), ([0b00000110, 0x9C], .aslZp 0x9C), ([0b00010110, 0x9C], .aslZpX 0x9C),
     ([0b00001110, 0x34, 0x12], .aslAbs 0x1234), ([0b00011110, 0x34, 0x12], .aslAbsX 0x1234),
     ([0b01001010], .lsrAcc), ([0b01000110, 0x9C], .lsrZp 0x9C), ([0b01010110, 0x9C], .lsrZpX 0x9C),
     ([0b01001110, 0x34, 0x12], .lsrAbs 0x1234), ([0b01011110, 0x34, 0x12], .lsrAbsX 0x1234),
     ([0b00101010], .rolAcc), ([0b00100110, 0x9C], .rolZp 0x9C), ([0b00110110, 0x9C], .rolZpX 0x9C),
     ([0b00101110, 0x34, 0x12], .rolAbs 0x1234), ([0b00111110, 0x34, 0x12], .rolAbsX 0x1234)] ++
    [([0b01101010], .rorAcc), ([0b01100110, 0x9C], .rorZp 0x9C), ([0b01110110, 0x9C], .rorZpX 0x9C),
     ([0b01101110, 0x34, 0x12], .rorAbs 0x1234), ([0b01111110, 0x34, 0x12], .rorAbsX 0x1234)]) := by decide

/-- The encodings of BPL, BMI, BVC, BVS, BCC, BCS, BNE, BEQ, CLC, SEC, CLI, SEI, CLV, CLD, SED, NOP, as `spec/opcode_table.json` prints them. -/
theorem test_decode_branch_flag : decodesTo (
    [([0b00010000, 0x9C], .bpl 0x9C), ([0b00110000, 0x9C], .bmi 0x9C), ([0b01010000, 0x9C], .bvc 0x9C),
     ([0b01110000, 0x9C], .bvs 0x9C), ([0b10010000, 0x9C], .bcc 0x9C), ([0b10110000, 0x9C], .bcs 0x9C),
     ([0b11010000, 0x9C], .bne 0x9C), ([0b11110000, 0x9C], .beq 0x9C), ([0b00011000], .clc), ([0b00111000], .sec),
     ([0b01011000], .cli), ([0b01111000], .sei), ([0b10111000], .clv), ([0b11011000], .cld), ([0b11111000], .sed)] ++
    [([0b11101010], .nop)]) := by decide

/-- BRK, RTI, an undocumented opcode, and a FULL opcode under DOC have no handler (30_encoding.md R81, R87). -/
theorem test_decode_refuses : decode .full [0x00] = .error (.noHandler 0x00) ∧ decode .full [0x40] = .error (.noHandler 0x40) ∧
    decode .full [0xA7, 0x10] = .error (.noHandler 0xA7) ∧ decode .doc [0xE8] = .error (.noHandler 0xE8) := by decide

/-- The table word's first byte is the opcode, its later bits the operand bytes in order. -/
theorem test_decode_table_word : decodeTableWord 24 0x1234AD = some (.ldaAbs 0x1234) ∧ decodeTableWord 8 0xFFEA = some .nop ∧
    decodeTableWord 8 0xA9 = some (.ldaImm 0x00) ∧ decodeTableWord 8 0x02 = none := by decide

/-! ### One step, by the vectors of 95_test_vectors.md -/

/-- A reset machine with these parameters, PC, and bytes at PC. -/
def startWith (c : Config) (pc : Addr) (bytes : List Byte) : State :=
  { (State.resetWith c).setBytes pc bytes with pc := pc }

/-- A reset machine with the default parameters, this PC, and these bytes at PC. -/
def start (pc : Addr) (bytes : List Byte) : State := startWith Config.default pc bytes

/-- Whether the result is a next state that passes the check. -/
def givesNext (r : Result) (check : State → Bool) : Bool :=
  match r with
  | .next t => check t
  | .fault _ => false
  | .refused _ => false

/-- The step from s gives exactly the expected state. -/
abbrev stepsTo (s : State) (expected : State → State) : Prop := givesNext (step s) (fun t => decide (t = expected s)) = true

theorem test_v_a1 : stepsTo (start 0x0200 [0xA9, 0x42])
    fun s => { s with a := 0x42, pc := 0x0202, consumed := 2 } := by decide

theorem test_v_a2 : stepsTo ((start 0x0200 [0xA5, 0x80]).setByte 0x0080 0x11)
    fun s => { s with a := 0x11, pc := 0x0202, consumed := 3 } := by decide

theorem test_v_a3 : stepsTo ({ (start 0x0200 [0xB5, 0xFF]).setByte 0x0000 0x77 with x := 0x01 })
    fun s => { s with a := 0x77, pc := 0x0202, consumed := 4 } := by decide

theorem test_v_a4 : stepsTo ({ (start 0x0200 [0xB6, 0x10]).setByte 0x0005 0x66 with y := 0xF5 })
    fun s => { s with x := 0x66, pc := 0x0202, consumed := 4 } := by decide

theorem test_v_a5 : stepsTo ((start 0x0200 [0xAD, 0x34, 0x12]).setByte 0x1234 0x5A)
    fun s => { s with a := 0x5A, pc := 0x0203, consumed := 4 } := by decide

theorem test_v_a7 : stepsTo ({ (start 0x0200 [0xBD, 0xFF, 0x00]).setByte 0x0100 0x02 with x := 0x01 })
    fun s => { s with a := 0x02, pc := 0x0203, consumed := 5 } := by decide

theorem test_v_a9 : stepsTo ({ (start 0x0200 [0xB9, 0xF0, 0x12]).setByte 0x1310 0x04 with y := 0x20 })
    fun s => { s with a := 0x04, pc := 0x0203, consumed := 5 } := by decide

theorem test_v_a11 : stepsTo ((((start 0x0400 [0x6C, 0xFF, 0x02]).setByte 0x02FF 0x00).setByte 0x0200 0x6C).setByte 0x0300 0x90)
    fun s => { s with pc := 0x6C00, consumed := 5 } := by decide

theorem test_v_a12 : stepsTo (((startWith { Config.default with jmpIndPageWrap := false } 0x0400 [0x6C, 0xFF, 0x02]).setByte 0x02FF 0x00).setByte 0x0300 0x90)
    fun s => { s with pc := 0x9000, consumed := 5 } := by decide

theorem test_v_a14 : stepsTo ({ (((((start 0x0200 [0xA1, 0xFF]).setByte 0x00FF 0x00).setByte 0x0000 0x12).setByte 0x0100 0x34).setByte 0x1200 0xAA).setByte 0x3400 0xBB with x := 0x00 })
    fun s => { s with a := 0xAA, pc := 0x0202, p := 0x80, consumed := 6 } := by decide

theorem test_v_a15 : stepsTo ({ (((((startWith { Config.default with zpPtrWrap := false } 0x0200 [0xA1, 0xFF]).setByte 0x00FF 0x00).setByte 0x0000 0x12).setByte 0x0100 0x34).setByte 0x1200 0xAA).setByte 0x3400 0xBB with x := 0x00 })
    fun s => { s with a := 0xBB, pc := 0x0202, p := 0x80, consumed := 6 } := by decide

theorem test_v_a17 : stepsTo ({ (((start 0x0200 [0xB1, 0x86]).setByte 0x0086 0x28).setByte 0x0087 0x40).setByte 0x4108 0x67 with y := 0xE0 })
    fun s => { s with a := 0x67, pc := 0x0202, consumed := 6 } := by decide

theorem test_v_a19 : stepsTo ({ start 0x0200 [0x9D, 0xFF, 0x00] with a := 0x42, x := 0x01 })
    fun s => { s.setByte 0x0100 0x42 with pc := 0x0203, consumed := 5 } := by decide

theorem test_v_a20 : stepsTo (((start 0xFFFE [0xAD, 0x34]).setByte 0x1234 0x99).setByte 0x0000 0x12)
    fun s => { s with a := 0x99, pc := 0x0001, p := 0x80, consumed := 4 } := by decide

theorem test_v_l4 : stepsTo ({ start 0x0200 [0xA2, 0x00] with x := 0x55 })
    fun s => { s with x := 0x00, pc := 0x0202, p := 0x02, consumed := 2 } := by decide

theorem test_v_l6 : stepsTo ({ start 0x0200 [0xA0, 0x00] with y := 0x55 })
    fun s => { s with y := 0x00, pc := 0x0202, p := 0x02, consumed := 2 } := by decide

theorem test_v_l9 : stepsTo ({ (start 0x0200 [0xBC, 0xF5, 0x12]).setByte 0x1305 0x7F with x := 0x10 })
    fun s => { s with y := 0x7F, pc := 0x0203, consumed := 5 } := by decide

theorem test_v_l10 : stepsTo ({ start 0x0200 [0x85, 0x10] with a := 0x42, p := 0x82 })
    fun s => { s.setByte 0x0010 0x42 with pc := 0x0202, consumed := 3 } := by decide

theorem test_v_l11 : stepsTo ({ ((start 0x0200 [0x91, 0x86]).setByte 0x0086 0x28).setByte 0x0087 0x40 with a := 0x99, y := 0xE0 })
    fun s => { s.setByte 0x4108 0x99 with pc := 0x0202, consumed := 6 } := by decide

theorem test_v_l12 : stepsTo ({ start 0x0200 [0x96, 0xFF] with x := 0x07, y := 0x02 })
    fun s => { s.setByte 0x0001 0x07 with pc := 0x0202, consumed := 4 } := by decide

theorem test_v_l13 : stepsTo ({ start 0x0200 [0x8C, 0x00, 0x03] with y := 0x99 })
    fun s => { s.setByte 0x0300 0x99 with pc := 0x0203, consumed := 4 } := by decide

theorem test_v_t1 : stepsTo ({ start 0x0200 [0xAA] with a := 0x80 })
    fun s => { s with x := 0x80, pc := 0x0201, p := 0x80, consumed := 2 } := by decide

theorem test_v_t2 : stepsTo ({ start 0x0200 [0xA8] with a := 0x00, y := 0x12 })
    fun s => { s with y := 0x00, pc := 0x0201, p := 0x02, consumed := 2 } := by decide

theorem test_v_t3 : stepsTo ({ start 0x0200 [0x8A] with a := 0x80, x := 0x7F, p := 0x80 })
    fun s => { s with a := 0x7F, pc := 0x0201, p := 0x00, consumed := 2 } := by decide

theorem test_v_t4 : stepsTo ({ start 0x0200 [0x98] with y := 0xFE })
    fun s => { s with a := 0xFE, pc := 0x0201, p := 0x80, consumed := 2 } := by decide

theorem test_v_t5 : stepsTo (start 0x0200 [0xBA])
    fun s => { s with x := 0xFF, pc := 0x0201, p := 0x80, consumed := 2 } := by decide

theorem test_v_t6 : stepsTo ({ start 0x0200 [0x9A] with x := 0x00 })
    fun s => { s with sp := 0x00, pc := 0x0201, consumed := 2 } := by decide

theorem test_v_t8 : stepsTo ({ start 0x0200 [0x48] with a := 0x43, sp := 0x00 })
    fun s => { s.setByte 0x0100 0x43 with sp := 0xFF, pc := 0x0201, consumed := 3 } := by decide

theorem test_v_t9 : stepsTo ({ start 0x0200 [0x08] with p := 0x83 })
    fun s => { s.setByte 0x01FF 0x83 with sp := 0xFE, pc := 0x0201, consumed := 3 } := by decide

theorem test_v_t12 : stepsTo ({ (start 0x0200 [0x68]).setByte 0x0100 0x80 with sp := 0xFF })
    fun s => { s with a := 0x80, sp := 0x00, pc := 0x0201, p := 0x80, consumed := 4 } := by decide

theorem test_v_t13 : stepsTo ({ (start 0x0200 [0x28]).setByte 0x01FF 0xFF with sp := 0xFE })
    fun s => { s with sp := 0xFF, pc := 0x0201, p := 0xFF, consumed := 4 } := by decide

theorem test_v_g1 : stepsTo ({ start 0x0200 [0x29, 0x3C] with a := 0xF0 })
    fun s => { s with a := 0x30, pc := 0x0202, consumed := 2 } := by decide

theorem test_v_g3 : stepsTo ({ start 0x0200 [0x49, 0xFF] with a := 0x0F })
    fun s => { s with a := 0xF0, pc := 0x0202, p := 0x80, consumed := 2 } := by decide

theorem test_v_g5 : stepsTo ({ start 0x0200 [0x09, 0x00] with a := 0x00 })
    fun s => { s with pc := 0x0202, p := 0x02, consumed := 2 } := by decide

theorem test_v_g6 : stepsTo ({ (start 0x0200 [0x1D, 0xFF, 0x00]).setByte 0x0100 0x80 with a := 0x01, x := 0x01 })
    fun s => { s with a := 0x81, pc := 0x0203, p := 0x80, consumed := 5 } := by decide

theorem test_v_g7 : stepsTo ({ (start 0x0200 [0x24, 0x10]).setByte 0x0010 0x44 with a := 0xA5 })
    fun s => { s with pc := 0x0202, p := 0x40, consumed := 3 } := by decide

theorem test_v_g8 : stepsTo ({ (start 0x0200 [0x2C, 0x34, 0x12]).setByte 0x1234 0xC0 with a := 0x00 })
    fun s => { s with pc := 0x0203, p := 0xC2, consumed := 4 } := by decide

theorem test_v_j1 : stepsTo (start 0xFFFC [0x4C, 0x00, 0x02])
    fun s => { s with pc := 0x0200, consumed := 3 } := by decide

theorem test_v_j5 : stepsTo (start 0xFFFD [0x20, 0x00, 0x03])
    fun s => { (s.setByte 0x01FE 0xFF).setByte 0x01FF 0xFF with sp := 0xFD, pc := 0x0300, consumed := 6 } := by decide

theorem test_v_j7 : stepsTo ({ ((start 0x0300 [0x60]).setByte 0x01FE 0xFF).setByte 0x01FF 0xFF with sp := 0xFD })
    fun s => { s with sp := 0xFF, pc := 0x0000, consumed := 6 } := by decide

theorem test_v_m1 : stepsTo ({ start 0x0200 [0x69, 0x50] with a := 0x50 })
    fun s => { s with a := 0xA0, pc := 0x0202, p := 0xC0, consumed := 2 } := by decide

theorem test_v_m6 : stepsTo ({ (start 0x0200 [0x79, 0xF0, 0x12]).setByte 0x1310 0x01 with a := 0x01, y := 0x20 })
    fun s => { s with a := 0x02, pc := 0x0203, consumed := 5 } := by decide

theorem test_v_m10 : stepsTo ({ start 0x0200 [0xE9, 0x01] with a := 0x00, p := 0x01 })
    fun s => { s with a := 0xFF, pc := 0x0202, p := 0x80, consumed := 2 } := by decide

theorem test_v_m11 : stepsTo ({ start 0x0200 [0xE9, 0x01] with a := 0x80, p := 0x01 })
    fun s => { s with a := 0x7F, pc := 0x0202, p := 0x41, consumed := 2 } := by decide

theorem test_v_m15 : stepsTo ({ start 0x0200 [0xC9, 0x20] with a := 0x10 })
    fun s => { s with pc := 0x0202, p := 0x80, consumed := 2 } := by decide

theorem test_v_m21 : stepsTo ({ start 0x0200 [0xC9, 0x40] with a := 0x40, p := 0x48 })
    fun s => { s with pc := 0x0202, p := 0x4B, consumed := 2 } := by decide

theorem test_v_m19 : stepsTo ({ start 0x0200 [0xE0, 0x05] with x := 0x05 })
    fun s => { s with pc := 0x0202, p := 0x03, consumed := 2 } := by decide

theorem test_v_m20 : stepsTo ({ start 0x0200 [0xC0, 0x01] with y := 0x00 })
    fun s => { s with pc := 0x0202, p := 0x80, consumed := 2 } := by decide

theorem test_v_s1 : stepsTo ((start 0x0200 [0xE6, 0x10]).setByte 0x0010 0xFF)
    fun s => { s.setByte 0x0010 0x00 with pc := 0x0202, p := 0x02, consumed := 5 } := by decide

theorem test_v_s2 : stepsTo ({ (start 0x0200 [0xFE, 0xFF, 0x12]).setByte 0x1300 0x7F with x := 0x01 })
    fun s => { s.setByte 0x1300 0x80 with pc := 0x0203, p := 0x80, consumed := 7 } := by decide

theorem test_v_s3 : stepsTo ((start 0x0200 [0xCE, 0x34, 0x12]).setByte 0x1234 0x00)
    fun s => { s.setByte 0x1234 0xFF with pc := 0x0203, p := 0x80, consumed := 6 } := by decide

theorem test_v_s4 : stepsTo ({ (start 0x0200 [0xD6, 0xFF]).setByte 0x0001 0x01 with x := 0x02 })
    fun s => { s.setByte 0x0001 0x00 with pc := 0x0202, p := 0x02, consumed := 6 } := by decide

theorem test_v_s6 : stepsTo ({ start 0x0200 [0xE8] with x := 0x7F })
    fun s => { s with x := 0x80, pc := 0x0201, p := 0x80, consumed := 2 } := by decide

theorem test_v_s7 : stepsTo ({ start 0x0200 [0xC8] with y := 0x00 })
    fun s => { s with y := 0x01, pc := 0x0201, consumed := 2 } := by decide

theorem test_v_s8 : stepsTo ({ start 0x0200 [0xCA] with x := 0x00 })
    fun s => { s with x := 0xFF, pc := 0x0201, p := 0x80, consumed := 2 } := by decide

theorem test_v_s10 : stepsTo ({ start 0x0200 [0x88] with y := 0x80 })
    fun s => { s with y := 0x7F, pc := 0x0201, consumed := 2 } := by decide

theorem test_v_s11 : stepsTo ({ start 0x0200 [0x0A] with a := 0xC1 })
    fun s => { s with a := 0x82, pc := 0x0201, p := 0x81, consumed := 2 } := by decide

theorem test_v_s13 : stepsTo ((start 0x0200 [0x46, 0x20]).setByte 0x0020 0x03)
    fun s => { s.setByte 0x0020 0x01 with pc := 0x0202, p := 0x01, consumed := 5 } := by decide

theorem test_v_s15 : stepsTo ({ start 0x0200 [0x2A] with a := 0x40, p := 0x01 })
    fun s => { s with a := 0x81, pc := 0x0201, p := 0x80, consumed := 2 } := by decide

theorem test_v_s17 : stepsTo ({ start 0x0200 [0x6A] with a := 0x02, p := 0x01 })
    fun s => { s with a := 0x81, pc := 0x0201, p := 0x80, consumed := 2 } := by decide

theorem test_v_s18 : stepsTo ({ (start 0x0200 [0x66, 0x30]).setByte 0x0030 0x00 with p := 0x01 })
    fun s => { s.setByte 0x0030 0x80 with pc := 0x0202, p := 0x80, consumed := 5 } := by decide

theorem test_v_b1 : stepsTo (start 0x0200 [0x10, 0x02])
    fun s => { s with pc := 0x0204, consumed := 3 } := by decide

theorem test_v_b2 : stepsTo (start 0x0200 [0x30, 0x02])
    fun s => { s with pc := 0x0202, consumed := 2 } := by decide

theorem test_v_b3 : stepsTo (start 0x0300 [0x50, 0xFE])
    fun s => { s with consumed := 3 } := by decide

theorem test_v_b4 : stepsTo ({ start 0x02F0 [0x70, 0x10] with p := 0x40 })
    fun s => { s with pc := 0x0302, consumed := 4 } := by decide

theorem test_v_b5 : stepsTo (start 0x0280 [0x90, 0x80])
    fun s => { s with pc := 0x0202, consumed := 3 } := by decide

theorem test_v_b6 : stepsTo ({ start 0x0200 [0xB0, 0x7F] with p := 0x01 })
    fun s => { s with pc := 0x0281, consumed := 3 } := by decide

theorem test_v_b7 : stepsTo (start 0x0206 [0xD0, 0xFC])
    fun s => { s with pc := 0x0204, consumed := 3 } := by decide

theorem test_v_b8 : stepsTo ({ start 0xFFFE [0xF0, 0x01] with p := 0x02 })
    fun s => { s with pc := 0x0001, consumed := 3 } := by decide

theorem test_v_b9 : stepsTo ({ start 0xFFFE [0xF0, 0xFD] with p := 0x02 })
    fun s => { s with pc := 0xFFFD, consumed := 4 } := by decide

theorem test_v_f1 : stepsTo ({ start 0x0200 [0x18] with p := 0x01 })
    fun s => { s with pc := 0x0201, p := 0x00, consumed := 2 } := by decide

theorem test_v_f2 : stepsTo (start 0x0200 [0x38])
    fun s => { s with pc := 0x0201, p := 0x01, consumed := 2 } := by decide

theorem test_v_f3 : stepsTo ({ start 0x0200 [0x58] with p := 0x04 })
    fun s => { s with pc := 0x0201, p := 0x00, consumed := 2 } := by decide

theorem test_v_f4 : stepsTo (start 0x0200 [0x78])
    fun s => { s with pc := 0x0201, p := 0x04, consumed := 2 } := by decide

theorem test_v_f5 : stepsTo ({ start 0x0200 [0xB8] with p := 0x40 })
    fun s => { s with pc := 0x0201, p := 0x00, consumed := 2 } := by decide

theorem test_v_f6 : stepsTo ({ start 0x0200 [0xD8] with p := 0x08 })
    fun s => { s with pc := 0x0201, p := 0x00, consumed := 2 } := by decide

theorem test_v_f7 : stepsTo (start 0x0200 [0xF8])
    fun s => { s with pc := 0x0201, p := 0x08, consumed := 2 } := by decide

theorem test_v_f8 : stepsTo (start 0x0200 [0xEA])
    fun s => { s with pc := 0x0201, consumed := 2 } := by decide

theorem test_v_e1 : stepsTo (start 0x0200 [0x02])
    fun s => { s with pc := 0x0201, reports := [⟨0x02, 0x0200⟩], consumed := 1 } := by decide

theorem test_v_e3 : stepsTo ({ startWith { Config.default with instructionSet := .doc } 0x0200 [0xE8] with x := 0x05 })
    fun s => { s with pc := 0x0201, reports := [⟨0xE8, 0x0200⟩], consumed := 1 } := by decide

theorem test_v_e4 : stepsTo (startWith { Config.default with unknownOpcode := .halt } 0x0200 [0xFF])
    fun s => { s with pc := 0x0201, halted := true, reports := [⟨0xFF, 0x0200⟩], consumed := 1 } := by decide

theorem test_v_m7 : step { start 0x0200 [0x69, 0x01] with a := 0x01, p := 0x08 } =
    .refused (.decimalArithmetic 0x69 0x0200) := by rfl

theorem test_v_m14 : step { start 0x0200 [0xE9, 0x01] with a := 0x05, p := 0x09 } =
    .refused (.decimalArithmetic 0xE9 0x0200) := by rfl

/-- The `execute` row X1: budget 0 runs nothing. -/
theorem test_execute_x1 : execute 0 (start 0xFFFC [0xA9, 0x05]) = ⟨0, [], .ok, start 0xFFFC [0xA9, 0x05]⟩ := by decide

/-- The `execute` row X2: budget 1 on ASL abs,X costs 7. -/
theorem test_execute_x2 : (execute 1 (start 0xFFFC [0x1E, 0x00, 0x03])).consumed = 7 := by decide

/-- An instruction placed by `withFetchWord` is the first one run from reset. -/
theorem test_withFetchWord : stepsTo (State.reset.withFetchWord 24 0x0300AD)
    fun s => { s with pc := 0xFFFF, p := 0x02, consumed := 4 } := by decide

/-! ### Witnesses: a concrete state and operands that meet each obligation's hypotheses together -/

/-- A machine under the HALT policy with an unhandled byte at PC. -/
def haltStart : State := startWith { Config.default with unknownOpcode := .halt } 0xFFFF [0xFF]

/-- A machine about to run ADC with D set. -/
def decimalStart : State := { start 0x0200 [0x69, 0x01] with p := 0x08 }

theorem witness_DecodeOfEncode : (Instr.ldaAbsX 0xFFFF).wf .doc = true ∧ (Instr.beq 0x80).wf .full = true := by decide

theorem witness_EncodeOfDecode : decode .doc [0xBD, 0xFF, 0x00, 0xEA] = .ok (.ldaAbsX 0x00FF, [0xEA]) := by decide

theorem witness_OpcodeFixesLength : (Instr.ldaZp 0x00).opcode = (Instr.ldaZp 0xFF).opcode := by decide

theorem witness_UnhandledBytesFailToDecode : State.reset.latched = false ∧
    dispatch State.reset.config.instructionSet (State.reset.byteAt State.reset.pc) = none := by decide

theorem witness_StepRunsDecodedInstruction : (start 0xFFFF [0xA9, 0x42]).latched = false ∧
    decode .full (start 0xFFFF [0xA9, 0x42]).fetchBytes = .ok (.ldaImm 0x42, [0x00]) := by decide

theorem witness_StepRunsEncodedInstruction : (start 0xFFFF [0xA9, 0x42]).latched = false ∧ (Instr.ldaImm 0x42).wf .full = true ∧
    ∀ (k : Nat) (h : k < (encode (.ldaImm 0x42)).length),
      (start 0xFFFF [0xA9, 0x42]).byteAt (0xFFFF + BitVec.ofNat 16 k) = (encode (.ldaImm 0x42))[k] := by decide

theorem witness_DecodeFailureContinues : State.reset.config.unknownOpcode = .logAndContinue ∧
    dispatch State.reset.config.instructionSet (State.reset.byteAt State.reset.pc) = none := by decide

theorem witness_DecodeFailureHalts : haltStart.config.unknownOpcode = .halt ∧ haltStart.halted = false ∧
    dispatch haltStart.config.instructionSet (haltStart.byteAt haltStart.pc) = none := by decide

theorem witness_AbnormalStepsAreComplete : { haltStart with halted := true }.latched = true ∧
    (haltStart.latched = false ∧ dispatch haltStart.config.instructionSet (haltStart.byteAt haltStart.pc) = none) ∧
    (∃ t, step (start 0x0200 [0xA9, 0x42]) = .next t) ∧
    decimalStart.latched = false ∧ decimalStart.flag .d = true ∧ decimalStart.config.decimalMode = .refuse ∧
    decimalStart.fetched = some (.adcImm 0x01) := ⟨rfl, ⟨rfl, rfl⟩, ⟨_, rfl⟩, rfl, by decide, rfl, rfl⟩

theorem witness_StepKeepsInvariant : (start 0x0200 [0x85, 0x10]).Inv ∧
    ∃ t, step (start 0x0200 [0x85, 0x10]) = .next t := ⟨⟨by decide, by decide⟩, _, rfl⟩

theorem witness_StepKeepsEngineState : (start 0x0200 [0x1E, 0xFF, 0xFF]).config.cycleOverrides = [] ∧
    ∃ t, step (start 0x0200 [0x1E, 0xFF, 0xFF]) = .next t := ⟨rfl, _, rfl⟩

theorem witness_StepNeverReadsCallState : (∃ t, step State.reset = .next t) ∧
    step { haltStart with halted := true } = .fault .halted ∧
    step decimalStart = .refused (.decimalArithmetic 0x69 0x0200) := ⟨⟨_, rfl⟩, rfl, rfl⟩

theorem witness_StepNeverDependsOnCycleTable : (∃ t, step (start 0x0200 [0xBD, 0xFF, 0x00]) = .next t) ∧
    step { haltStart with halted := true } = .fault .halted ∧
    step decimalStart = .refused (.decimalArithmetic 0x69 0x0200) := ⟨⟨_, rfl⟩, rfl, rfl⟩

theorem witness_FlagsHaveOnlyTheirWriters : ∀ f : Flag, f ∈ [Flag.c, .z, .i, .d, .b, .u, .v, .n] →
    givesNext (exec .plp (State.reset.setByte 0x0100 0xFF)) (fun t => t.flag f ≠ State.reset.flag f) := by decide

theorem witness_RegistersHaveOnlyTheirWriters :
    givesNext (exec (.ldaImm 0x01) State.reset) (fun t => t.a ≠ State.reset.a) ∧
    givesNext (exec .aslAcc { State.reset with a := 0x01 }) (fun t => t.a ≠ 0x01) ∧
    givesNext (exec .inx State.reset) (fun t => t.x ≠ State.reset.x) ∧
    givesNext (exec .dey State.reset) (fun t => t.y ≠ State.reset.y) ∧
    givesNext (exec .php State.reset) (fun t => t.sp ≠ State.reset.sp) ∧
    givesNext (exec (.bpl 0x7F) State.reset) (fun t => t.pc ≠ nextPc (.bpl 0x7F) State.reset) := by decide

theorem witness_MemoryHasOnlyItsWriters :
    givesNext (exec (.staAbs 0xFFFF) { State.reset with a := 0x01 }) (fun t => t.byteAt 0xFFFF ≠ State.reset.byteAt 0xFFFF) ∧
    givesNext (exec (.rolZp 0x00) { State.reset with p := 0x01 }) (fun t => t.byteAt 0x0000 ≠ State.reset.byteAt 0x0000) := by
  decide

theorem witness_Push16Layout : (0x0101 : Addr) ≠ stackAddr 0x00 ∧
    (0x0101 : Addr) ≠ stackAddr (0x00 - 1) := by decide

theorem witness_JsrPushesReturnAddress : (0x01FD : Addr) ≠ stackAddr 0xFF ∧ (0x01FD : Addr) ≠ stackAddr (0xFF - 1) := by decide

theorem witness_JsrRtsRoundTrip : givesNext (exec (.jsr 0x0300) { State.reset with sp := 0x00 }) (fun t =>
    { t with pc := 0x0305, a := 0x77 }.sp = t.sp ∧ ∀ n ∈ [(0x00 : Byte), 0xFF],
      { t with pc := 0x0305, a := 0x77 }.byteAt (stackAddr n) = t.byteAt (stackAddr n)) := by decide

theorem witness_PhpPlpRoundTrip : givesNext (exec .php { State.reset with sp := 0x00, p := 0x30 }) (fun t =>
    { t with p := 0xCF }.sp = t.sp ∧ { t with p := 0xCF }.byteAt (stackAddr 0x00) = t.byteAt (stackAddr 0x00)) := by decide

theorem witness_IndirectMode : Config.default.jmpIndPageWrap = true ∧
    { Config.default with jmpIndPageWrap := false }.jmpIndPageWrap = false ∧ joinBytes 0x02 0xFF = 0x02FF := by decide

/-- After reset the opcode has the penalty class of R204. -/
abbrev specClass (i : Instr) : Prop := penaltyClass State.reset.config i.opcode = specPenalty i.mnemonic i.mode.name

/-- The row is the mnemonic's, in a mode whose operand this source gives, and after reset has the penalty class of R204. -/
abbrev isRow (i : Instr) (m : Mnemonic) (src : Source) : Prop := i.mnemonic = m ∧ i.mode = .source src ∧ specClass i

theorem witness_LoadsWriteRegisterAndSetZN : isRow (.ldaIndY 0xFF) .lda (.memory (.indirectY 0xFF)) ∧
    isRow (.ldxImm 0x00) .ldx (.immediate 0x00) ∧ isRow (.ldyAbsX 0xFFFF) .ldy (.memory (.absoluteX 0xFFFF)) := by decide

theorem witness_StoresWriteOneByte : isRow (.staAbsX 0xFFFF) .sta (.memory (.absoluteX 0xFFFF)) ∧
    isRow (.stxZpY 0xFF) .stx (.memory (.zeroPageY 0xFF)) ∧ isRow (.styZp 0x00) .sty (.memory (.zeroPage 0x00)) := by decide

theorem witness_TransfersCopyRegisters : Instr.tax.mnemonic = .tax ∧ Instr.tay.mnemonic = .tay ∧ Instr.txa.mnemonic = .txa ∧
    Instr.tya.mnemonic = .tya ∧ Instr.tsx.mnemonic = .tsx ∧ Instr.txs.mnemonic = .txs := by decide

theorem witness_PlaPullsAccumulator : Instr.pla.mnemonic = .pla := by decide

theorem witness_PlpPullsStatus : Instr.plp.mnemonic = .plp := by decide

theorem witness_LogicalInstructionsWriteAccumulator : isRow (.andImm 0x0F) .and (.immediate 0x0F) ∧
    isRow (.eorIndX 0xFF) .eor (.memory (.indirectX 0xFF)) ∧ isRow (.oraAbsY 0xFFFF) .ora (.memory (.absoluteY 0xFFFF)) := by decide

theorem witness_BitTestSetsFlags : isRow (.bitAbs 0xFFFF) .bit (.memory (.absolute 0xFFFF)) := by decide

theorem witness_JumpsWritePc : isRow (.jmpInd 0x02FF) .jmp (.memory (.indirect 0x02FF)) ∧
    isRow (.jmpAbs 0x0000) .jmp (.memory (.absolute 0x0000)) := by decide

theorem witness_AdcAddsOrRefuses : isRow (.adcImm 0x01) .adc (.immediate 0x01) ∧ State.reset.flag .d = false ∧
    { Config.default with decimalMode := .binary }.decimalMode = .binary ∧
    (decimalStart.flag .d = true ∧ decimalStart.config.decimalMode = .refuse) := by decide

theorem witness_SbcSubtractsOrRefuses : isRow (.sbcIndY 0xFF) .sbc (.memory (.indirectY 0xFF)) ∧ State.reset.flag .d = false ∧
    { Config.default with decimalMode := .binary }.decimalMode = .binary ∧
    (decimalStart.flag .d = true ∧ decimalStart.config.decimalMode = .refuse) := by decide

theorem witness_DecimalRefusalStopsTheCall : decimalStart.latched = false ∧ decimalStart.fetched = some (.adcImm 0x01) ∧
    (Instr.adcImm 0x01).mnemonic ∈ [Mnemonic.adc, .sbc] ∧ decimalStart.flag .d = true ∧
    decimalStart.config.decimalMode = .refuse ∧ 0 < 1 := by decide

theorem witness_ComparesSetFlags : isRow (.cmpAbsX 0xFFFF) .cmp (.memory (.absoluteX 0xFFFF)) ∧
    isRow (.cpxImm 0x05) .cpx (.immediate 0x05) ∧ isRow (.cpyZp 0xFF) .cpy (.memory (.zeroPage 0xFF)) := by decide

theorem witness_IncDecModifyMemory : isRow (.incAbsX 0xFFFF) .inc (.memory (.absoluteX 0xFFFF)) ∧
    isRow (.decZpX 0xFF) .dec (.memory (.zeroPageX 0xFF)) := by decide

theorem witness_IncDecRegisters : Instr.inx.mnemonic = .inx ∧ Instr.iny.mnemonic = .iny ∧ Instr.dex.mnemonic = .dex ∧
    Instr.dey.mnemonic = .dey := by decide

theorem witness_LeftShifts : (Instr.aslAcc.mnemonic = .asl ∧ Instr.aslAcc.mode = .accumulator) ∧
    isRow (.aslZp 0xFF) .asl (.memory (.zeroPage 0xFF)) ∧ (Instr.rolAcc.mnemonic = .rol ∧ Instr.rolAcc.mode = .accumulator) ∧
    isRow (.rolAbsX 0xFFFF) .rol (.memory (.absoluteX 0xFFFF)) := by decide

theorem witness_RightShifts : (Instr.lsrAcc.mnemonic = .lsr ∧ Instr.lsrAcc.mode = .accumulator) ∧
    isRow (.lsrZpX 0xFF) .lsr (.memory (.zeroPageX 0xFF)) ∧ (Instr.rorAcc.mnemonic = .ror ∧ Instr.rorAcc.mode = .accumulator) ∧
    isRow (.rorAbs 0xFFFF) .ror (.memory (.absolute 0xFFFF)) := by decide

/-- Each branch's row, with a state where it is taken and one where it is not. -/
theorem witness_BranchesTransferOnFlag :
    (∀ r ∈ [(Instr.bpl 0x80, Mnemonic.bpl), (.bmi 0x80, .bmi), (.bvc 0x80, .bvc), (.bvs 0x80, .bvs), (.bcc 0x7F, .bcc),
      (.bcs 0x7F, .bcs), (.bne 0xFE, .bne), (.beq 0xFE, .beq)],
      r.1.mnemonic = r.2 ∧ specClass r.1 ∧ (r.1.mode = .relative 0x80 ∨ r.1.mode = .relative 0x7F ∨ r.1.mode = .relative 0xFE)) ∧
    ∀ f ∈ [Flag.n, .v, .c, .z], State.reset.flag f = false ∧ { State.reset with p := 0xFF }.flag f = true := by decide

theorem witness_FlagInstructionsWriteOneFlag : Instr.clc.mnemonic = .clc ∧ Instr.sec.mnemonic = .sec ∧
    Instr.cli.mnemonic = .cli ∧ Instr.sei.mnemonic = .sei ∧ Instr.clv.mnemonic = .clv ∧ Instr.cld.mnemonic = .cld ∧
    Instr.sed.mnemonic = .sed := by decide

theorem witness_DefaultCycleTable : Config.default.cycleOverrides = [] := by decide

theorem witness_StepCosts :
    (dispatch State.reset.config.instructionSet (State.reset.byteAt State.reset.pc) = none ∧ ∃ t, step State.reset = .next t) ∧
    (specPenalty .sta .absoluteX = .fixed ∧ specClass (.staAbsX 0x00FF) ∧ ∃ t, exec (.staAbsX 0x00FF) State.reset = .next t) ∧
    (specPenalty .lda .absoluteX = .page ∧ specClass (.ldaAbsX 0x00FF) ∧ ∃ t, exec (.ldaAbsX 0x00FF) State.reset = .next t) ∧
    (specPenalty .bpl .relative = .branch ∧ specClass (.bpl 0x80) ∧ ∃ t, exec (.bpl 0x80) State.reset = .next t) :=
  ⟨⟨rfl, _, rfl⟩, ⟨rfl, rfl, _, rfl⟩, ⟨rfl, rfl, _, rfl⟩, rfl, rfl, _, rfl⟩

theorem witness_ExecuteBounds : (execute 1 (start 0x0200 [0x1E, 0x00, 0x03])).outcome = .ok ∧
    (execute 1 (start 0x0200 [0x1E, 0x00, 0x03])).state.latched = false ∧
    (start 0x0200 [0x1E, 0x00, 0x03]).config.cycleOverrides = [] := by decide

/-- The smallest budget and the largest that a step of cost 7 uses up. -/
theorem witness_ExecuteRunsOneStep : ∀ budget ∈ [1, 7], 0 < budget ∧
    givesNext (step ((start 0x0200 [0x1E, 0x00, 0x03, 0xEA]).beginCall budget)) (fun t => budget ≤ t.consumed) := by decide

theorem witness_ExecuteSplits : (execute 2 (start 0x0200 [0xA9, 0x42, 0xE8])).outcome = .ok ∧
    (execute 2 (start 0x0200 [0xA9, 0x42, 0xE8])).consumed = 2 := by decide

end Sys2Proof.Machine.Tests
end

section
/-! PROOF. The status byte as a number, and its packing of the eight flags (10_state.md R26, R27). -/

namespace Sys2Proof.Machine

/-- The spec's number of a flag (00_scope.md R8) is the library's number of a Boolean. -/
theorem bitValue_eq_toNat (b : Bool) : bitValue b = b.toNat := by
  cases b <;> rfl

/-- A flag as a number is the binary digit of P at the flag's bit (10_state.md R26). -/
theorem bitValue_getFlag (p : Byte) (f : Flag) : bitValue (getFlag p f) = p.toNat / 2 ^ f.bit % 2 := by
  rw [bitValue_eq_toNat, ← Nat.toNat_testBit]
  rfl

/-- The order N V U B D I Z C, as the weights of the flags in the status byte (10_state.md R26). -/
theorem status_toNat (p : Byte) :
    p.toNat = 128 * bitValue (getFlag p .n) + 64 * bitValue (getFlag p .v) + 32 * bitValue (getFlag p .u) +
      16 * bitValue (getFlag p .b) + 8 * bitValue (getFlag p .d) + 4 * bitValue (getFlag p .i) +
      2 * bitValue (getFlag p .z) + bitValue (getFlag p .c) := by
  have hp : p.toNat < 256 := p.isLt
  simp only [bitValue_getFlag, Flag.bit]
  omega

end Sys2Proof.Machine

open Sys2Proof.Machine

/-- Settles O22: the eight flags are the binary digits of P, and a flag write reaches its own digit only. -/
theorem statusBytePacksFlags : Obligations.StatusBytePacksFlags := by
  intro s v f g b
  exact ⟨status_toNat s.p, State.setFlag_flag s f g b, State.setP_p s v⟩

end

section
/-! PROOF. The memory primitives: a store writes one byte, a 16-bit read is two byte reads, zero-fill clears every byte
(20_memory.md R46). -/

namespace Sys2Proof.Machine

/-- A store leaves one byte changed, the one it names (20_memory.md R46). -/
theorem State.setByte_oneByteWritten (s : State) (addr : Addr) (v : Byte) :
    OneByteWritten s (s.setByte addr v) addr v := by
  constructor
  · simp
  · intro k hk
    simp [hk]

/-- The next address in wrap-around numbers (20_memory.md R47). -/
theorem addr_add_one (addr : Addr) : addr + 1 = BitVec.ofNat 16 ((addr.toNat + 1) % 65536) := by
  apply BitVec.eq_of_toNat_eq
  simp [BitVec.toNat_add]

/-- A 16-bit read is little-endian (20_memory.md R46). -/
theorem State.wordAt_toNat (s : State) (addr : Addr) :
    (s.wordAt addr).toNat = (s.byteAt addr).toNat + 256 * (s.byteAt (addr + 1)).toNat := by
  rw [State.wordAt, joinBytes_toNat]
  omega

/-- After zero-fill every byte reads zero (20_memory.md R46). -/
@[simp] theorem State.zeroFill_byteAt (s : State) (k : Addr) : s.zeroFill.byteAt k = 0x00 := Memory.read_nil k.toNat

end Sys2Proof.Machine

open Sys2Proof.Machine

/-- Settles O21: a store and zero-fill replace the memory field alone, and a 16-bit read joins two byte reads. -/
theorem memoryPrimitives : Obligations.MemoryPrimitives := by
  intro s addr v
  have hword := State.wordAt_toNat s addr
  rw [addr_add_one] at hword
  exact ⟨State.setByte_oneByteWritten s addr v, ⟨rfl, rfl, rfl, rfl, rfl⟩, rfl, ⟨rfl, rfl, rfl, rfl⟩, hword,
    State.zeroFill_byteAt s addr, ⟨rfl, rfl, rfl, rfl, rfl⟩, rfl, ⟨rfl, rfl, rfl, rfl⟩⟩

end

section
/-! PROOF. The stack in wrap-around numbers: the address of a stack byte, SP around a push and a pull, and the layout of a
16-bit push (20_memory.md R52 to R54). -/

namespace Sys2Proof.Machine

/-- The stack byte of SP is at `0x0100 + SP`, with no carry out of the stack page (10_state.md R24). -/
theorem stackAddr_toNat (sp : Byte) : (stackAddr sp).toNat = 0x0100 + sp.toNat := by
  have hsp : sp.toNat < 256 := sp.isLt
  rw [stackAddr, BitVec.toNat_add, zeroExtend16_toNat]
  exact Nat.mod_eq_of_lt (show 0x0100 + sp.toNat < 65536 by omega)

/-- The stack byte n above SP, the index modulo 256 (20_memory.md R53, R54). -/
theorem stackAddr_add_ofNat (sp : Byte) (n : Nat) :
    stackAddr (sp + BitVec.ofNat 8 n) = BitVec.ofNat 16 (0x0100 + (sp.toNat + n) % 256) := by
  apply BitVec.eq_of_toNat_eq
  rw [stackAddr_toNat]
  simp only [BitVec.toNat_add, BitVec.toNat_ofNat]
  omega

/-- SP after a push, modulo 256 (20_memory.md R52). -/
theorem State.push_sp_toNat (s : State) (v : Byte) : (s.push v).sp.toNat = (s.sp.toNat + 255) % 256 := by
  rw [State.push_sp, BitVec.toNat_sub, Nat.add_comm]
  rfl

/-- SP after a 16-bit push, modulo 256 (20_memory.md R54). -/
theorem State.push16_sp_toNat (s : State) (w : Addr) : (s.push16 w).sp.toNat = (s.sp.toNat + 254) % 256 := by
  rw [State.push16, State.push_sp_toNat, State.push_sp_toNat]
  omega

/-- A pull reads the byte just above SP (20_memory.md R53). -/
theorem State.pull_value_ofNat (s : State) :
    s.pull.1 = s.byteAt (BitVec.ofNat 16 (0x0100 + (s.sp.toNat + 1) % 256)) := by
  rw [State.pull_value, ← stackAddr_add_ofNat]
  rfl

/-- A push writes the byte at `0x0100 + SP`, SP the one before it (20_memory.md R52). -/
theorem State.push_byteAt_toNat (s : State) (v : Byte) (k : Addr) :
    (s.push v).byteAt k = if k.toNat = 0x0100 + s.sp.toNat then v else s.byteAt k := by
  simp [← stackAddr_toNat, BitVec.toNat_inj]

/-- A pull after a push gives the pushed byte: the increment undoes the decrement (20_memory.md R52, R53). -/
theorem State.pull_push (s : State) (v : Byte) : (s.push v).pull.1 = v ∧ (s.push v).pull.2.sp = s.sp := by
  have hsp : (s.push v).sp + 1 = s.sp := BitVec.sub_add_cancel s.sp 1
  refine ⟨?_, hsp⟩
  rw [State.pull_value, hsp, State.push_byteAt, if_pos rfl]

/-- The low byte of a 16-bit push is the one just above the new SP (20_memory.md R54). -/
theorem State.push16_lowByte (s : State) (w : Addr) :
    (s.push16 w).byteAt (stackAddr ((s.push16 w).sp + 1)) = loByte w := by
  have hsp : (s.push16 w).sp + 1 = s.sp - 1 := BitVec.sub_add_cancel (s.sp - 1) 1
  rw [hsp, State.push16_byteAt, if_pos rfl]

/-- The high byte of a 16-bit push is above the low byte, at the old SP; the two stack bytes differ (20_memory.md R54). -/
theorem State.push16_highByte (s : State) (w : Addr) :
    (s.push16 w).byteAt (stackAddr ((s.push16 w).sp + 2)) = hiByte w := by
  have hsp : (s.push16 w).sp + 2 = s.sp := by
    rw [State.push16_sp]
    bv_omega
  have hne : stackAddr s.sp ≠ stackAddr (s.sp - 1) := by
    rw [Ne, stackAddr_inj]
    bv_omega
  rw [hsp, State.push16_byteAt, if_neg hne, if_pos rfl]

end Sys2Proof.Machine

open Sys2Proof.Machine

/-- Settles O23, from what a push and a pull do to SP and to each byte. -/
theorem pushThenPull : Obligations.PushThenPull := by
  intro s v
  obtain ⟨hvalue, hsp⟩ := State.pull_push s v
  exact ⟨State.push_sp_toNat s v, State.push_byteAt_toNat s v, BitVec.toNat_add s.sp 1, State.pull_value_ofNat s,
    State.pull_byteAt s, hvalue, hsp⟩

/-- Settles O24: the low byte is one above the new SP, the high byte two above it, and no other byte is written. -/
theorem push16Layout : Obligations.Push16Layout := by
  intro s w
  refine ⟨State.push16_sp_toNat s w, ?low, ?high, ?frame⟩
  case low =>
    rw [← stackAddr_add_ofNat]
    exact State.push16_lowByte s w
  case high =>
    rw [← stackAddr_add_ofNat]
    exact State.push16_highByte s w
  case frame =>
    intro k hhigh hlow
    rw [State.push16_byteAt, if_neg hlow, if_neg hhigh]

end

section
/-! PROOF. The opcode map and the rows of the table: what the map holds at an instruction's own opcode, the handled bytes, and the
bytes with no handler (30_encoding.md R81 to R87). -/

namespace Sys2Proof

/-- An instruction's place in the table of 30_encoding.md R85: its mnemonic and the column of its mode. -/
def Instr.row (i : Instr) : Mnemonic × ModeName := (i.mnemonic, i.mode.name)

/-- The instruction a format makes from zero operand bytes. -/
def Format.blank : Format → Instr
  | .f1 i => i
  | .f2 build => build 0x00
  | .f3 build => build 0x0000

/-- The row of the instructions that an entry of the opcode map makes (`opcodeEntry_opcode`). -/
def Entry.row (e : Entry) : Mnemonic × ModeName := e.format.blank.row

/-- All 256 byte values, rising. -/
def allBytes : List Byte := (List.range 256).map (BitVec.ofNat 8)

/-- The byte values that the opcode map gives a handler. -/
def handledBytes : List Byte := allBytes.filter fun op => (opcodeEntry op).isSome

@[simp] theorem mem_allBytes (op : Byte) : op ∈ allBytes :=
  List.mem_map.2 ⟨op.toNat, List.mem_range.2 op.isLt, by simp⟩

@[simp] theorem mem_handledBytes (op : Byte) : op ∈ handledBytes ↔ (opcodeEntry op).isSome = true := by
  simp [handledBytes]

/-! ### The map and the instructions -/

/-- The map's entry at an instruction's own opcode has the mnemonic's profile and the instruction's row, whatever the operand
(30_encoding.md R81, R85). -/
theorem opcodeEntry_opcode (i : Instr) :
    ∃ e, opcodeEntry i.opcode = some e ∧ e.profile = i.mnemonic.profile ∧ e.row = i.row := by
  cases i <;> (dsimp only [Instr.opcode]; exact ⟨_, rfl, rfl, rfl⟩)

/-- An entry stands at the opcode of the instructions it makes. -/
theorem opcode_blank : ∀ op : Byte, ∀ e ∈ opcodeEntry op, e.format.blank.opcode = op := by decide +kernel

/-- The bytes with a handler are the opcodes of the instructions (30_encoding.md R83). -/
theorem exists_opcode_eq_iff (op : Byte) : (∃ i : Instr, i.opcode = op) ↔ (opcodeEntry op).isSome = true := by
  constructor
  · rintro ⟨i, rfl⟩
    obtain ⟨e, he, -⟩ := opcodeEntry_opcode i
    rw [he, Option.isSome_some]
  · intro h
    obtain ⟨e, he⟩ := Option.isSome_iff_exists.1 h
    exact ⟨e.format.blank, opcode_blank op e he⟩

/-- One opcode has one row: the map has one entry for it. -/
theorem row_eq_of_opcode_eq {i j : Instr} (h : i.opcode = j.opcode) : i.row = j.row := by
  obtain ⟨e, he, -, hrow⟩ := opcodeEntry_opcode i
  obtain ⟨e', he', -, hrow'⟩ := opcodeEntry_opcode j
  have hee' : e = e' := Option.some.inj (by rw [← he, ← he', h])
  rw [← hrow, ← hrow', hee']

/-- No row stands at two places of the opcode map (30_encoding.md R83). -/
theorem handledRows_nodup : (handledBytes.map fun op => (opcodeEntry op).map Entry.row).Nodup := by decide +kernel

/-- One row has one opcode. -/
theorem opcode_eq_of_row_eq {i j : Instr} (h : i.row = j.row) : i.opcode = j.opcode := by
  obtain ⟨e, he, -, hrow⟩ := opcodeEntry_opcode i
  obtain ⟨e', he', -, hrow'⟩ := opcodeEntry_opcode j
  refine List.inj_on_of_nodup_map handledRows_nodup ?_ ?_ ?_
  · simp [he]
  · simp [he']
  · simp [he, he', hrow, hrow', h]

/-! ### The bytes with no handler -/

/-- The FULL profile admits every entry of the map (30_encoding.md R81). -/
theorem dispatch_full (op : Byte) : dispatch .full op = (opcodeEntry op).map Entry.format := by
  cases h : opcodeEntry op <;> simp [dispatch, h]

/-- The DOC profile has no handler where the map has none or a FULL one (30_encoding.md R81). -/
theorem dispatch_doc_eq_none_iff (op : Byte) :
    dispatch .doc op = none ↔ opcodeEntry op = none ∨ ∃ e, opcodeEntry op = some e ∧ e.profile = .full := by
  cases h : opcodeEntry op with
  | none => simp [dispatch, h]
  | some e => cases hp : e.profile <;> simp [dispatch, h, hp, InstructionSet.admits]

/-- A DOC handler is the same in both profiles (30_encoding.md R81). -/
theorem dispatch_of_doc {op : Byte} {format : Format} (set : InstructionSet) (h : opcodeEntry op = some ⟨.doc, format⟩) :
    dispatch set op = some format := by
  cases set <;> simp [dispatch, h, InstructionSet.admits]

/-- The list of 30_encoding.md R87 is what the opcode map leaves without a handler. -/
theorem unhandledBytes_eq : Machine.unhandledBytes = allBytes.filter fun op => (opcodeEntry op).isNone := by decide +kernel

theorem mem_unhandledBytes (op : Byte) : op ∈ Machine.unhandledBytes ↔ opcodeEntry op = none := by
  simp [unhandledBytes_eq]

/-- The FULL entries of the map are at the opcodes of the FULL instructions. -/
theorem exists_full_opcode_eq_iff (op : Byte) :
    (∃ i : Instr, i.opcode = op ∧ i.mnemonic.profile = .full) ↔ ∃ e, opcodeEntry op = some e ∧ e.profile = .full := by
  constructor
  · rintro ⟨i, rfl, hp⟩
    obtain ⟨e, he, hprofile, -⟩ := opcodeEntry_opcode i
    exact ⟨e, he, hprofile.trans hp⟩
  · rintro ⟨e, he, hp⟩
    obtain ⟨i, rfl⟩ := (exists_opcode_eq_iff op).2 (Option.isSome_of_eq_some he)
    obtain ⟨e', he', hprofile, -⟩ := opcodeEntry_opcode i
    have hee' : e = e' := Option.some.inj (he.symm.trans he')
    exact ⟨i, rfl, by rw [← hprofile, ← hee', hp]⟩

/-! ### Lengths -/

/-- The length of an instruction is one byte more than its mode's operand bytes (30_encoding.md R62). -/
theorem Instr.length_eq (i : Instr) : i.length = i.mode.operandBytes.length + 1 := rfl

/-- The length that a mode's column gives an instruction, by the formats of 30_encoding.md R62. -/
def ModeName.length : ModeName → Nat
  | .implied | .accumulator => 1
  | .absolute | .absoluteX | .absoluteY | .indirect => 3
  | .immediate | .zeroPage | .zeroPageX | .zeroPageY | .indirectX | .indirectY | .relative => 2

theorem AddrMode.operandBytes_length (mode : AddrMode) : mode.operandBytes.length + 1 = mode.name.length := by
  match mode with
  | .implied | .accumulator | .relative _ | .source (.immediate _) => rfl
  | .source (.memory m) => cases m <;> rfl

/-- The mode's column alone fixes the length (30_encoding.md R63). -/
theorem Instr.length_eq_modeLength (i : Instr) : i.length = i.mode.name.length := by
  rw [Instr.length_eq, AddrMode.operandBytes_length]

end Sys2Proof

open Sys2Proof Sys2Proof.Machine

/-- Settles O3: opcode and row fix each other, and the map's other places are the list of R87. -/
theorem opcodeTableIsBijective : Obligations.OpcodeTableIsBijective := by
  refine ⟨fun i j => ?pairs, fun op => ?handled, ?count⟩
  case pairs =>
    rw [← Prod.mk.injEq]
    exact ⟨row_eq_of_opcode_eq, opcode_eq_of_row_eq⟩
  case handled =>
    rw [exists_opcode_eq_iff, dispatch_full, Option.isSome_map]
  case count =>
    calc (List.range 256).countP (fun n => (dispatch .full (BitVec.ofNat 8 n)).isNone)
      _ = allBytes.countP (fun op => (opcodeEntry op).isNone) := by
          simp [allBytes, List.countP_map, Function.comp_def, dispatch_full]
      _ = unhandledBytes.length := by rw [unhandledBytes_eq, List.countP_eq_length_filter]
      _ = 107 := rfl

/-- Settles O4: the opcode fixes the row, the row's column fixes the length, and the fetch does not read P. -/
theorem opcodeFixesLength : Obligations.OpcodeFixesLength := by
  refine ⟨fun i j h => ?same, fun s p => rfl, fun i => i.length_eq_modeLength⟩
  case same =>
    have hmode : i.mode.name = j.mode.name := congrArg Prod.snd (row_eq_of_opcode_eq h)
    exact ⟨by rw [i.length_eq_modeLength, j.length_eq_modeLength, hmode], hmode⟩

/-- Settles O5: the map is empty at R87's bytes, DOC also leaves out the FULL entries, and no handler is a failed decode. -/
theorem unhandledBytesFailToDecode : Obligations.UnhandledBytesFailToDecode := by
  refine ⟨fun op => ?full, fun op => ?doc, fun s hlatch hnone => ?failure⟩
  case full =>
    rw [dispatch_full, Option.map_eq_none_iff, mem_unhandledBytes]
  case doc =>
    rw [dispatch_doc_eq_none_iff, mem_unhandledBytes, exists_full_opcode_eq_iff]
  case failure =>
    have hdecode : decode s.config.instructionSet s.fetchBytes = .error (.noHandler (s.byteAt s.pc)) := decode_noHandler hnone
    simp [step, hlatch, hdecode]

/-- Settles O6: the seven rows are DOC rows, which both profiles dispatch alike. -/
theorem sourceOpcodeRowsDecode : Obligations.SourceOpcodeRowsDecode := by
  intro set b l h rest
  have ldaImm : dispatch set 0xA9 = some (.f2 .ldaImm) := dispatch_of_doc set rfl
  have ldaAbs : dispatch set 0xAD = some (.f3 .ldaAbs) := dispatch_of_doc set rfl
  have staZp : dispatch set 0x85 = some (.f2 .staZp) := dispatch_of_doc set rfl
  have jsr : dispatch set 0x20 = some (.f3 .jsr) := dispatch_of_doc set rfl
  have rts : dispatch set 0x60 = some (.f1 .rts) := dispatch_of_doc set rfl
  have andImm : dispatch set 0x29 = some (.f2 .andImm) := dispatch_of_doc set rfl
  have bitZp : dispatch set 0x24 = some (.f2 .bitZp) := dispatch_of_doc set rfl
  simp only [decode, ldaImm, ldaAbs, staZp, jsr, rts, andImm, bitZp, and_self]

end

section
/-! PROOF. The addressing modes in wrap-around numbers: indexing, the zero page, and the two kinds of pointer (30_encoding.md R66
to R78). -/

namespace Sys2Proof.Machine

/-! ### Indexing -/

/-- An indexed address, modulo 65536 (30_encoding.md R72, R73). -/
theorem indexed_ea_toNat (base : Addr) (index : Byte) :
    (indexed base index).ea.toNat = (base.toNat + index.toNat) % 65536 := by
  rw [indexed, BitVec.toNat_add, zeroExtend16_toNat]

/-- An indexed address crosses when its high byte is not the base's (30_encoding.md R75). -/
theorem indexed_crossed_iff (base : Addr) (index : Byte) :
    (indexed base index).crossed = true ↔ (base.toNat + index.toNat) % 65536 / 256 ≠ base.toNat / 256 := by
  rw [← indexed_ea_toNat, ← hiByte_toNat, ← hiByte_toNat, Ne, BitVec.toNat_inj]
  exact bne_iff_ne

/-- A zero-page address indexed modulo 256 (30_encoding.md R69, R70). -/
theorem zeroExtend16_add_toNat (b index : Byte) : (zeroExtend16 (b + index)).toNat = (b.toNat + index.toNat) % 256 := by
  rw [zeroExtend16_toNat, BitVec.toNat_add]

/-! ### Pointers -/

theorem zeroExtend16_eq_ofNat (b : Byte) : zeroExtend16 b = BitVec.ofNat 16 b.toNat := (BitVec.ofNat_toNat 16 b).symm

/-- The address of a zero-page pointer's high byte, as `ZP_PTR_WRAP` says (30_encoding.md R76). -/
theorem zpNext_eq_ofNat (c : Config) (p : Byte) :
    zpNext c p = BitVec.ofNat 16 (if c.zpPtrWrap = true then (p.toNat + 1) % 256 else p.toNat + 1) := by
  cases hwrap : c.zpPtrWrap
  · simp [zpNext, hwrap, zeroExtend16_eq_ofNat, BitVec.ofNat_add]
  · simp [zpNext, hwrap, zeroExtend16_eq_ofNat, BitVec.toNat_add]

/-- A zero-page pointer is little-endian, with its high byte at `ZpNext` (30_encoding.md R76, R77). -/
theorem State.zpPointer_toNat (s : State) (p : Byte) :
    (s.zpPointer p).toNat =
      (s.byteAt (BitVec.ofNat 16 p.toNat)).toNat + 256 * (s.byteAt (zpNext s.config p)).toNat := by
  rw [State.zpPointer, joinBytes_toNat, zeroExtend16_eq_ofNat]
  omega

/-- With `JMP_IND_PAGE_WRAP` a jump pointer's high byte is in the pointer's own page (30_encoding.md R74). -/
theorem jumpPointerNext_of_wrap {c : Config} (hwrap : c.jmpIndPageWrap = true) (h l : Byte) :
    jumpPointerNext c (joinBytes h l) = joinBytes h (BitVec.ofNat 8 ((l.toNat + 1) % 256)) := by
  have hnext : l + 1 = BitVec.ofNat 8 ((l.toNat + 1) % 256) := BitVec.eq_of_toNat_eq (by simp [BitVec.toNat_add])
  rw [jumpPointerNext, if_pos hwrap, hiByte_joinBytes, loByte_joinBytes, hnext]

/-- Without it the high byte is at the next address, modulo 65536 (30_encoding.md R74). -/
theorem jumpPointerNext_of_no_wrap {c : Config} (hwrap : c.jmpIndPageWrap = false) (ptr : Addr) :
    jumpPointerNext c ptr = BitVec.ofNat 16 ((ptr.toNat + 1) % 65536) := by
  rw [jumpPointerNext, hwrap]
  exact addr_add_one ptr

/-- The indirect mode's target is little-endian (30_encoding.md R74). -/
theorem resolve_indirect_ea_toNat (s : State) (ptr : Addr) :
    (resolve s (.indirect ptr)).ea.toNat =
      (s.byteAt ptr).toNat + 256 * (s.byteAt (jumpPointerNext s.config ptr)).toNat := by
  rw [resolve, joinBytes_toNat]
  omega

end Sys2Proof.Machine

open Sys2Proof Sys2Proof.Machine

/-- Settles O29: the absolute modes are the operand, and it indexed by X and by Y. -/
theorem absoluteModes : Obligations.AbsoluteModes := by
  intro s w
  exact ⟨⟨rfl, rfl⟩, ⟨indexed_ea_toNat w s.x, indexed_crossed_iff w s.x⟩,
    ⟨indexed_ea_toNat w s.y, indexed_crossed_iff w s.y⟩⟩

/-- Settles O30: the target joins two bytes, the second where the parameter puts it. -/
theorem indirectMode : Obligations.IndirectMode := by
  intro s h l ptr target
  have htarget : target = (s.byteAt ptr).toNat + 256 * (s.byteAt (jumpPointerNext s.config ptr)).toNat :=
    resolve_indirect_ea_toNat s ptr
  refine ⟨fun hwrap => ?wrap, fun hwrap => ?noWrap, rfl⟩
  case wrap => rw [htarget, jumpPointerNext_of_wrap hwrap]
  case noWrap => rw [htarget, jumpPointerNext_of_no_wrap hwrap]

/-- Settles O31: (indirect,X) is the pointer at the indexed zero-page byte, (indirect),Y the pointer at the byte, indexed. -/
theorem zeroPagePointerModes : Obligations.ZeroPagePointerModes := by
  intro s b next pointer
  have hpointer (p : Byte) : (s.zpPointer p).toNat = pointer p.toNat := by
    rw [State.zpPointer_toNat, zpNext_eq_ofNat]
  refine ⟨⟨?indirectX, rfl⟩, ?indirectY⟩
  case indirectX =>
    rw [← BitVec.toNat_add]
    exact hpointer (b + s.x)
  case indirectY =>
    rw [← hpointer b]
    exact ⟨indexed_ea_toNat (s.zpPointer b) s.y, indexed_crossed_iff (s.zpPointer b) s.y⟩

/-- Settles O28: an operand is read at the effective address, and the zero-page modes index a byte modulo 256. -/
theorem zeroPageModes : Obligations.ZeroPageModes := by
  intro s b
  exact ⟨fun mode => ⟨rfl, rfl⟩, ⟨rfl, rfl⟩, ⟨zeroExtend16_toNat b, rfl⟩, ⟨zeroExtend16_add_toNat b s.x, rfl⟩,
    ⟨zeroExtend16_add_toNat b s.y, rfl⟩⟩

end

section
/-! PROOF. The rows of a mnemonic, read off the opcode map: the form in which a list of rows is compared with the table
(30_encoding.md R84, R85). -/

namespace Sys2Proof

/-- The mnemonic's rows in the opcode map, by rising opcode (`Mnemonic.mem_tableRows`). -/
def Mnemonic.tableRows (m : Mnemonic) : List (ModeName × Byte) :=
  handledBytes.filterMap fun op =>
    match opcodeEntry op with
    | some e => if e.row.1 = m then some (e.row.2, op) else none
    | none => none

/-- The opcode map has an entry of this row exactly at the opcode of the row's instructions. -/
theorem exists_instr_row_iff (m : Mnemonic) (mode : ModeName) (op : Byte) :
    (∃ i : Instr, i.mnemonic = m ∧ i.mode.name = mode ∧ i.opcode = op) ↔ ∃ e ∈ opcodeEntry op, e.row = (m, mode) := by
  constructor
  · rintro ⟨i, rfl, rfl, rfl⟩
    obtain ⟨e, he, -, hrow⟩ := opcodeEntry_opcode i
    exact ⟨e, he, hrow⟩
  · rintro ⟨e, he, hrow⟩
    obtain ⟨hm, hmode⟩ := Prod.mk.inj hrow
    exact ⟨e.format.blank, hm, hmode, opcode_blank op e he⟩

theorem Mnemonic.mem_tableRows (m : Mnemonic) (r : ModeName × Byte) :
    r ∈ m.tableRows ↔ ∃ i : Instr, i.mnemonic = m ∧ i.mode.name = r.1 ∧ i.opcode = r.2 := by
  obtain ⟨mode, op⟩ := r
  rw [exists_instr_row_iff, Mnemonic.tableRows, List.mem_filterMap]
  constructor
  · rintro ⟨op', -, h⟩
    split at h
    case h_1 e he =>
      obtain ⟨hm, h⟩ := Option.ite_none_right_eq_some.1 h
      cases h
      exact ⟨e, he, by rw [← hm]⟩
    case h_2 => cases h
  · rintro ⟨e, he, hrow⟩
    have he : opcodeEntry op = some e := he
    exact ⟨op, by simp [he], by simp [he, hrow]⟩

end Sys2Proof

namespace Sys2Proof.Machine

/-- A list of the map's rows of a mnemonic, in any order, leaves out no form and adds none. -/
theorem hasRows_of_perm {m : Mnemonic} {rows : List (ModeName × Byte)} (h : rows.Perm m.tableRows) :
    HasRows m rows := by
  constructor
  · intro i hm
    exact h.mem_iff.2 ((m.mem_tableRows _).2 ⟨i, hm, rfl, rfl⟩)
  · intro r hr
    exact (m.mem_tableRows r).1 (h.mem_iff.1 hr)

end Sys2Proof.Machine
end

section
/-! PROOF. The rules of the read-class instructions and of the stores, from the operation that a mnemonic's rows share
(30_encoding.md R78; 40_load_store.md R100 to R105). -/

namespace Sys2Proof.Machine

/-- PC past the instruction's bytes, however they are counted (30_encoding.md R62). -/
theorem advance_operandBytes_pc {i : Instr} {src : Source} (hmode : i.mode = .source src) (s : State) :
    (s.advance (1 + src.operandBytes.length)).pc = nextPc i s := by
  rw [nextPc, Instr.length_eq, hmode, Nat.add_comm]
  rfl

/-- The modes that can cross a page (`name_mem_crossingModes`). -/
def crossingModes : List ModeName := [.absoluteX, .absoluteY, .indirectY]

/-- Only an index added to a 16-bit base can cross a page (30_encoding.md R75, R78). -/
theorem name_mem_crossingModes {s : State} {src : Source} (h : operandCrossed s src = true) :
    (AddrMode.source src).name ∈ crossingModes := by
  match src with
  | .memory (.absoluteX _) | .memory (.absoluteY _) | .memory (.indirectY _) =>
    simp [AddrMode.name, MemMode.name, crossingModes]
  | .immediate _ | .memory (.zeroPage _) | .memory (.zeroPageX _) | .memory (.zeroPageY _) | .memory (.absolute _)
  | .memory (.indirect _) | .memory (.indirectX _) => cases h

/-- The class of the read-class instructions in the modes that can cross a page (70_reset_and_hazards.md R204). -/
theorem specPenalty_eq_page {m : Mnemonic} {mode : ModeName} (hm : m ∈ pageClassMnemonics)
    (hmode : mode ∈ crossingModes) : specPenalty m mode = .page := by
  have hbranch : ∀ m ∈ pageClassMnemonics, m ∉ branchMnemonics := by decide
  rw [specPenalty, if_neg (hbranch m hm), if_pos ⟨hm, hmode⟩]

/-- With the class of R204, a read-class instruction's penalty is 1 for a page cross and 0 otherwise (30_encoding.md R78). -/
theorem pagePenalty_operandCrossed {i : Instr} {s : State} {src : Source} (hmode : i.mode = .source src)
    (hm : i.mode.name ∈ crossingModes → i.mnemonic ∈ pageClassMnemonics)
    (hclass : penaltyClass s.config i.opcode = specPenalty i.mnemonic i.mode.name) :
    pagePenalty s.config i.opcode (operandCrossed s src) = bitValue (operandCrossed s src) := by
  cases hcross : operandCrossed s src with
  | false => rfl
  | true =>
    have hname : i.mode.name ∈ crossingModes := hmode ▸ name_mem_crossingModes hcross
    exact pagePenalty_of_page (hclass.trans (specPenalty_eq_page (hm hname) hname)) true

/-- What the effect of a read-class instruction leaves alone: SP, PC, memory, the cycle count and the parameters. -/
def EffectKeeps (s t : State) : Prop :=
  t.sp = s.sp ∧ t.pc = s.pc ∧ SameMemory s t ∧ t.consumed = s.consumed ∧ t.config = s.config

/-- A mnemonic whose rows all read an operand and apply one effect has the rule of a read-class instruction. -/
theorem readClassRule_of_readOperand {m : Mnemonic} {rows : List (ModeName × Byte)} {effect : Byte → State → State}
    {result : State → Byte → State → Prop} (hrows : HasRows m rows)
    (hcrossing : ∀ r ∈ rows, r.1 ∈ crossingModes → m ∈ pageClassMnemonics)
    (hexec : ∀ {i : Instr} {src : Source} (s : State), i.mnemonic = m → i.mode = .source src →
      exec i s = readOperand i.opcode src effect s)
    (hkeeps : ∀ v s, EffectKeeps s (effect v s))
    (hresult : ∀ s v n cycles, result s v ((effect v (s.advance n)).charge cycles)) :
    ReadClassRule m rows result := by
  refine ⟨hrows, fun i s src hi hmode => ?_⟩
  have hnext := hexec s hi hmode
  rw [readOperand_eq, finish_eq] at hnext
  obtain ⟨hsp, hpc, hmem, hconsumed, hconfig⟩ := hkeeps (operand s src) (s.advance (1 + src.operandBytes.length))
  refine ⟨_, hnext, ?result, hsp, ?pc, hmem, exec_engine hnext, fun hclass => ?cost⟩
  case result =>
    cases src <;> exact hresult s _ _ _
  case pc => exact hpc.trans (advance_operandBytes_pc hmode s)
  case cost =>
    have hspec : specCrossed s src = operandCrossed s src := by cases src <;> rfl
    have hpenalty := pagePenalty_operandCrossed hmode (hi ▸ hcrossing _ (hrows.1 i hi)) hclass
    rw [State.charge_consumed, hconsumed, hconfig, hpenalty, hspec, Nat.add_assoc]
    rfl

/-- `SetZN(v)` gives Z and N of v and keeps the other six flags, whatever else the instruction writes (10_state.md R36). -/
theorem znOf_and_flagsKept_of_p {s t : State} {v : Byte} (hp : t.p = (s.setZN v).p) :
    ZNOf v t ∧ FlagsKept [.z, .n] s t := by
  have hflag (f : Flag) : t.flag f = (s.setZN v).flag f := congrArg (getFlag · f) hp
  refine ⟨⟨?zero, ?negative⟩, fun f hf => ?kept⟩
  case zero =>
    rw [hflag]
    simp [← BitVec.toNat_inj]
  case negative => rw [hflag, State.setZN_flag, if_pos rfl]
  case kept =>
    simp only [List.mem_cons, List.not_mem_nil, or_false, not_or] at hf
    obtain ⟨hz, hn⟩ := hf
    rw [hflag, State.setZN_flag, if_neg hn, if_neg hz]

/-- A mnemonic whose rows all store one register's byte has the rule of a store (40_load_store.md R103). -/
theorem storeRule_of_storeByte {m : Mnemonic} {rows : List (ModeName × Byte)} {register : State → Byte}
    (hrows : HasRows m rows)
    (hexec : ∀ {i : Instr} {mode : MemMode} (s : State), i.mnemonic = m → i.mode = .source (.memory mode) →
      exec i s = storeByte i.opcode mode (register s) s) :
    StoreRule m rows register := by
  refine ⟨hrows, fun i s mode hi hmode => ?_⟩
  have hnext := hexec s hi hmode
  rw [storeByte_eq] at hnext
  have hpc := advance_operandBytes_pc hmode s
  exact ⟨_, hnext, State.setByte_oneByteWritten (s.advance _) _ _, ⟨rfl, rfl, rfl, rfl, hpc⟩, rfl, exec_engine hnext, rfl⟩

end Sys2Proof.Machine

open Sys2Proof Sys2Proof.Machine

/-- Settles O32: each load reads its operand into one register, and `SetZN` of it writes Z and N alone. -/
theorem loadsWriteRegisterAndSetZN : Obligations.LoadsWriteRegisterAndSetZN := by
  refine ⟨?lda, ?ldx, ?ldy⟩
  case lda =>
    exact readClassRule_of_readOperand (hasRows_of_perm (by decide +kernel)) (by decide) exec_lda
      (fun _ _ => ⟨rfl, rfl, fun _ => rfl, rfl, rfl⟩)
      (fun _ _ _ _ => ⟨rfl, rfl, rfl, znOf_and_flagsKept_of_p rfl⟩)
  case ldx =>
    exact readClassRule_of_readOperand (hasRows_of_perm (by decide +kernel)) (by decide) exec_ldx
      (fun _ _ => ⟨rfl, rfl, fun _ => rfl, rfl, rfl⟩)
      (fun _ _ _ _ => ⟨rfl, rfl, rfl, znOf_and_flagsKept_of_p rfl⟩)
  case ldy =>
    exact readClassRule_of_readOperand (hasRows_of_perm (by decide +kernel)) (by decide) exec_ldy
      (fun _ _ => ⟨rfl, rfl, fun _ => rfl, rfl, rfl⟩)
      (fun _ _ _ _ => ⟨rfl, rfl, rfl, znOf_and_flagsKept_of_p rfl⟩)

/-- Settles O33: each store is one byte written at the effective address, whatever the mode and a page cross. -/
theorem storesWriteOneByte : Obligations.StoresWriteOneByte := by
  refine ⟨?sta, ?stx, ?sty⟩
  case sta => exact storeRule_of_storeByte (hasRows_of_perm (by decide +kernel)) exec_sta
  case stx => exact storeRule_of_storeByte (hasRows_of_perm (by decide +kernel)) exec_stx
  case sty => exact storeRule_of_storeByte (hasRows_of_perm (by decide +kernel)) exec_sty

end

section
/-! PROOF. The rules of the transfer and stack instructions, from the state that the implied form's shared operation finishes with
(41_transfer_stack.md R106 to R115). -/

namespace Sys2Proof.Machine

/-- A mnemonic of one implied row that ends in the state `after s`, with PC past the opcode and memory and the cycle count as
before, has the rule of an implied instruction. -/
theorem impliedRule_of_finish {m : Mnemonic} {op : Byte} {after : State → State} {result : State → State → Prop}
    (hrows : HasRows m [(.implied, op)])
    (hexec : ∀ {i : Instr} (s : State), i.mnemonic = m → exec i s = finish i.opcode 0 (after s))
    (hkeeps : ∀ s, (after s).pc = s.pc + 1 ∧ SameMemory s (after s) ∧ (after s).consumed = s.consumed)
    (hresult : ∀ s cycles, result s ((after s).charge cycles)) :
    ImpliedRule m op result := by
  refine ⟨hrows, fun i s hi => ?_⟩
  have hnext := hexec s hi
  rw [finish_eq] at hnext
  obtain ⟨-, -, -, hconfig⟩ := exec_engine hnext
  rw [State.charge_config] at hconfig
  obtain ⟨hpc, hmem, hconsumed⟩ := hkeeps s
  refine ⟨_, hnext, hresult s _, hpc, hmem, exec_engine hnext, ?cost⟩
  case cost => rw [CostsBase, State.charge_consumed, hconsumed, hconfig, Nat.add_zero]

/-- A push leaves one byte changed, the stack byte that SP names (20_memory.md R52). -/
theorem State.push_oneByteWritten (s : State) (v : Byte) : OneByteWritten s (s.push v) (stackAddr s.sp) v :=
  State.setByte_oneByteWritten s (stackAddr s.sp) v

/-- An instruction that pushes v writes that byte at SP's stack byte and changes, besides, only SP, PC and the cycle count
(41_transfer_stack.md R112, R113). -/
theorem exec_push_of_pushByte {i : Instr} {v : Byte} {s : State} (hexec : exec i s = pushByte i.opcode v s) :
    ∃ t, exec i s = .next t ∧ OneByteWritten s t (stackAddr s.sp) v ∧
      RegistersAre t s.a s.x s.y (s.sp - 1) (s.pc + 1) ∧ t.p = s.p ∧ EngineKept s t ∧ CostsBase i s t := by
  rw [pushByte_eq] at hexec
  exact ⟨_, hexec, State.push_oneByteWritten (s.advance 1) v, ⟨rfl, rfl, rfl, rfl, rfl⟩, rfl, exec_engine hexec, rfl⟩

end Sys2Proof.Machine

open Sys2Proof Sys2Proof.Machine

/-- Settles O34: each transfer copies one register, with `SetZN` of the byte in all but TXS. -/
theorem transfersCopyRegisters : Obligations.TransfersCopyRegisters := by
  refine ⟨?tax, ?tay, ?txa, ?tya, ?tsx, ?txs⟩
  case tax =>
    exact impliedRule_of_finish (hasRows_of_perm (by decide +kernel)) exec_tax (fun _ => ⟨rfl, fun _ => rfl, rfl⟩)
      (fun _ _ => ⟨rfl, rfl, rfl, rfl, znOf_and_flagsKept_of_p rfl⟩)
  case tay =>
    exact impliedRule_of_finish (hasRows_of_perm (by decide +kernel)) exec_tay (fun _ => ⟨rfl, fun _ => rfl, rfl⟩)
      (fun _ _ => ⟨rfl, rfl, rfl, rfl, znOf_and_flagsKept_of_p rfl⟩)
  case txa =>
    exact impliedRule_of_finish (hasRows_of_perm (by decide +kernel)) exec_txa (fun _ => ⟨rfl, fun _ => rfl, rfl⟩)
      (fun _ _ => ⟨rfl, rfl, rfl, rfl, znOf_and_flagsKept_of_p rfl⟩)
  case tya =>
    exact impliedRule_of_finish (hasRows_of_perm (by decide +kernel)) exec_tya (fun _ => ⟨rfl, fun _ => rfl, rfl⟩)
      (fun _ _ => ⟨rfl, rfl, rfl, rfl, znOf_and_flagsKept_of_p rfl⟩)
  case tsx =>
    exact impliedRule_of_finish (hasRows_of_perm (by decide +kernel)) exec_tsx (fun _ => ⟨rfl, fun _ => rfl, rfl⟩)
      (fun _ _ => ⟨rfl, rfl, rfl, rfl, znOf_and_flagsKept_of_p rfl⟩)
  case txs =>
    exact impliedRule_of_finish (hasRows_of_perm (by decide +kernel)) exec_txs (fun _ => ⟨rfl, fun _ => rfl, rfl⟩)
      (fun _ _ => ⟨rfl, rfl, rfl, rfl, rfl⟩)

/-- Settles O35: PHA and PHP each push one byte, A and the status byte as stored. -/
theorem pushesWriteStackByte : Obligations.PushesWriteStackByte := by
  refine ⟨?phaRows, fun s => ?pha, ?phpRows, fun s => ?php⟩
  case phaRows => exact hasRows_of_perm (by decide +kernel)
  case pha => exact exec_push_of_pushByte (exec_pha s rfl)
  case phpRows => exact hasRows_of_perm (by decide +kernel)
  case php => exact exec_push_of_pushByte (exec_php s rfl)

/-- Settles O36: PLA puts the pulled byte into A, with `SetZN` of it. -/
theorem plaPullsAccumulator : Obligations.PlaPullsAccumulator :=
  impliedRule_of_finish (hasRows_of_perm (by decide +kernel)) exec_pla (fun _ => ⟨rfl, fun _ => rfl, rfl⟩)
    (fun _ _ => ⟨rfl, rfl, rfl, rfl, znOf_and_flagsKept_of_p rfl⟩)

/-- Settles O37: PLP puts the pulled byte into P, all eight bits. -/
theorem plpPullsStatus : Obligations.PlpPullsStatus :=
  impliedRule_of_finish (hasRows_of_perm (by decide +kernel)) exec_plp (fun _ => ⟨rfl, fun _ => rfl, rfl⟩)
    (fun _ _ => ⟨rfl, rfl, rfl, rfl, rfl⟩)

end

section
/-! PROOF. The rules of the logical and bit-test instructions: A combined with the operand, and the flags of BIT
(42_logical_bit.md R116 to R119). -/

namespace Sys2Proof.Machine

/-- The effect AND, EOR and ORA share: A and the operand's value combined go to A, with `SetZN` of the result
(42_logical_bit.md R116 to R118). -/
def State.combineA (combine : Byte → Byte → Byte) (v : Byte) (s : State) : State :=
  (s.setA (combine s.a v)).setZN (combine s.a v)

/-- A mnemonic whose rows all combine A with the operand has the rule of a read-class instruction. The rows name A as it was before
the fetch, which moves PC alone. -/
theorem readClassRule_of_combineA {m : Mnemonic} {rows : List (ModeName × Byte)} (combine : Byte → Byte → Byte)
    (hrows : HasRows m rows) (hm : m ∈ pageClassMnemonics)
    (hexec : ∀ {i : Instr} {src : Source} (s : State), i.mnemonic = m → i.mode = .source src →
      exec i s = readOperand i.opcode src (fun v t => (t.setA (combine s.a v)).setZN (combine s.a v)) s) :
    ReadClassRule m rows fun s v t =>
      t.a = combine s.a v ∧ t.x = s.x ∧ t.y = s.y ∧ ZNOf (combine s.a v) t ∧ FlagsKept [.z, .n] s t :=
  readClassRule_of_readOperand (effect := State.combineA combine) hrows (fun _ _ _ => hm) hexec
    (fun _ _ => ⟨rfl, rfl, fun _ => rfl, rfl, rfl⟩)
    (fun _ _ _ _ => ⟨rfl, rfl, rfl, znOf_and_flagsKept_of_p rfl⟩)

/-- BIT's status byte gives Z of the AND, V and N from bits 6 and 7 of the operand, and keeps the other five flags
(42_logical_bit.md R119). -/
theorem bitTest_flags_of_p {s t : State} {v : Byte} (hp : t.p = (s.setBitTest v).p) :
    (t.flag .z = true ↔ (s.a &&& v).toNat = 0) ∧ t.flag .v = v.getLsbD 6 ∧ t.flag .n = v.getLsbD 7 ∧
      FlagsKept [.z, .v, .n] s t := by
  have hflag (f : Flag) : t.flag f = (s.setBitTest v).flag f := congrArg (getFlag · f) hp
  refine ⟨?zero, ?overflow, ?negative, fun f hf => ?kept⟩
  case zero =>
    rw [hflag]
    simp [← BitVec.toNat_inj]
  case overflow => simp [hflag]
  case negative => simp [hflag]
  case kept =>
    simp only [List.mem_cons, List.not_mem_nil, or_false, not_or] at hf
    obtain ⟨hz, hv, hn⟩ := hf
    rw [hflag, State.setBitTest_flag, if_neg hn, if_neg hv, if_neg hz]

end Sys2Proof.Machine

open Sys2Proof Sys2Proof.Machine

/-- Settles O38: AND, EOR and ORA each combine A with the operand by one bitwise operation, and `SetZN` of the result writes Z and N
alone. -/
theorem logicalInstructionsWriteAccumulator : Obligations.LogicalInstructionsWriteAccumulator := by
  refine ⟨?and, ?eor, ?ora⟩
  case and => exact readClassRule_of_combineA (· &&& ·) (hasRows_of_perm (by decide +kernel)) (by decide) exec_and
  case eor => exact readClassRule_of_combineA (· ^^^ ·) (hasRows_of_perm (by decide +kernel)) (by decide) exec_eor
  case ora => exact readClassRule_of_combineA (· ||| ·) (hasRows_of_perm (by decide +kernel)) (by decide) exec_ora

/-- Settles O39: BIT's effect writes P alone, and neither of its forms can cross a page. -/
theorem bitTestSetsFlags : Obligations.BitTestSetsFlags := by
  refine readClassRule_of_readOperand (hasRows_of_perm (by decide +kernel)) (by decide) exec_bit
    (fun _ _ => ⟨rfl, rfl, fun _ => rfl, rfl, rfl⟩) (fun s v n cycles => ?flags)
  case flags =>
    obtain ⟨hz, hv, hn, hkept⟩ := bitTest_flags_of_p (s := s) (t := ((s.advance n).setBitTest v).charge cycles) rfl
    exact ⟨hz, hv, hn, hkept, rfl, rfl, rfl⟩

end

section
/-! PROOF. The rules of the jump, call and return instructions, from what a 16-bit push and pull do to SP and to the stack bytes
(43_control.md R120 to R122). -/

namespace Sys2Proof.Machine

/-- SP goes up by 2 over a 16-bit pull (20_memory.md R55). -/
theorem add_one_add_one (sp : Byte) : sp + 1 + 1 = sp + 2 := BitVec.add_assoc sp 1 1

/-- SP goes down by 2 over a 16-bit push (20_memory.md R54). -/
theorem sub_one_sub_one (sp : Byte) : sp - 1 - 1 = sp - 2 := by bv_omega

/-- The low byte of a 16-bit push, named by the SP before it (20_memory.md R54). -/
theorem State.push16_byteAt_low (s : State) (w : Addr) : (s.push16 w).byteAt (stackAddr (s.sp - 1)) = loByte w := by
  rw [State.push16_byteAt, if_pos rfl]

/-- The high byte of a 16-bit push, named by the SP before it: the low byte did not overwrite it (20_memory.md R54). -/
theorem State.push16_byteAt_high (s : State) (w : Addr) : (s.push16 w).byteAt (stackAddr s.sp) = hiByte w := by
  have hsp : (s.push16 w).sp + 2 = s.sp := by
    rw [State.push16_sp, sub_one_sub_one]
    exact BitVec.sub_add_cancel s.sp 2
  rw [← State.push16_highByte s w, hsp]

/-- JSR's last operand byte is two past its opcode (43_control.md R121). -/
theorem add_three_sub_one (pc : Addr) : pc + 3 - 1 = pc + 2 := by bv_omega

/-- A 16-bit push does not depend on PC, nor move it (20_memory.md R54). -/
theorem State.advance_push16 (s : State) (n : Nat) (w : Addr) : (s.advance n).push16 w = (s.push16 w).advance n := rfl

/-- JSR leaves memory as a 16-bit push of the address of its last byte leaves it (43_control.md R121). -/
theorem callSubroutine_byteAt {op : Byte} {target : Addr} {s t : State} (h : callSubroutine op target s = .next t)
    (k : Addr) : t.byteAt k = (s.push16 (s.pc + 2)).byteAt k := by
  rw [callSubroutine_eq, add_three_sub_one, State.advance_push16] at h
  cases h
  rw [State.charge_byteAt, State.setPc_byteAt, State.advance_byteAt]

end Sys2Proof.Machine

open Sys2Proof Sys2Proof.Machine

/-- Settles O40: a jump is one write of PC, whatever the mode the target was resolved from. -/
theorem jumpsWritePc : Obligations.JumpsWritePc := by
  refine ⟨hasRows_of_perm (by decide +kernel), fun i s mode hi hmode => ?jump⟩
  case jump =>
    have hnext := exec_jmp s hi hmode
    rw [jump_eq] at hnext
    exact ⟨_, hnext, ⟨rfl, rfl, rfl, rfl, rfl⟩, rfl, fun _ => rfl, exec_engine hnext, rfl⟩

/-- Settles O41: JSR is a 16-bit push of the address of its last byte, then one write of PC from the operand it was decoded with,
which no push can reach. -/
theorem jsrPushesReturnAddress : Obligations.JsrPushesReturnAddress := by
  refine ⟨hasRows_of_perm (by decide +kernel), fun s w => ?call⟩
  case call =>
    have hnext := exec_jsr w s
    have hbyte := callSubroutine_byteAt (callSubroutine_eq (Instr.jsr w).opcode w s)
    rw [callSubroutine_eq] at hnext
    refine ⟨_, hnext, ?registers, ?high, ?low, fun k hhigh hlow => ?frame, ?status, exec_engine hnext, ?cost⟩
    case registers => simpa [RegistersAre] using sub_one_sub_one s.sp
    case high => rw [hbyte, State.push16_byteAt_high]
    case low => rw [hbyte, State.push16_byteAt_low]
    case frame => rw [hbyte, State.push16_byteAt, if_neg hlow, if_neg hhigh]
    case status => simp
    case cost => simp [CostsBase]

/-- Settles O42: RTS is a 16-bit pull, then one write of PC with the pulled address plus one. -/
theorem rtsPullsReturnAddress : Obligations.RtsPullsReturnAddress := by
  refine ⟨hasRows_of_perm (by decide +kernel), fun s => ?pull⟩
  case pull =>
    have hnext := exec_rts (i := .rts) s rfl
    rw [returnFromSubroutine_eq, State.pull16_value, add_one_add_one] at hnext
    refine ⟨_, hnext, ?registers, ?status, fun k => ?memory, exec_engine hnext, ?cost⟩
    case registers => simpa [RegistersAre] using add_one_add_one s.sp
    case status => simp
    case memory => simp
    case cost => simp [CostsBase]

end

section
/-! PROOF. The rules of the arithmetic and compare instructions: ADC and SBC as one addition with carry of A, and the compares as one
write of C with `SetZN` of the difference (44_arith_compare.md R124 to R128). -/

namespace Sys2Proof.Machine

/-! ### The flags that an instruction keeps beside one it writes -/

/-- What a flag write and a later update that keeps that flag leave: the written value, and every flag that neither writes
(10_state.md R27). -/
theorem flag_and_flagsKept_of_setFlag {s t : State} {f : Flag} {b : Bool} {written : List Flag} (hf : f ∉ written)
    (hkept : FlagsKept written (s.setFlag f b) t) : t.flag f = b ∧ FlagsKept (f :: written) s t := by
  refine ⟨?value, fun g hg => ?kept⟩
  case value => rw [hkept f hf, State.setFlag_flag, if_pos rfl]
  case kept =>
    obtain ⟨hgf, hg⟩ := not_or.1 (List.mem_cons.not.1 hg)
    rw [hkept g hg, State.setFlag_flag, if_neg hgf]

/-! ### ADC and SBC -/

theorem operand_eq_specOperand (s : State) (src : Source) : operand s src = specOperand s src := by
  cases src <;> rfl

theorem operandCrossed_eq_specCrossed (s : State) (src : Source) : operandCrossed s src = specCrossed s src := by
  cases src <;> rfl

/-- What ADC and SBC do with their sum: it goes to A, and C, V, Z and N are written (44_arith_compare.md R124). -/
def State.putSum (s : State) (r : Sum) : State :=
  (((s.setFlag .c r.carry).setFlag .v r.overflow).setA r.value).setZN r.value

/-- ADC and SBC after the decimal check write the sum of A and the operand as they were before the instruction. -/
theorem accumulate_eq (op : Byte) (src : Source) (compute : Byte → Byte → Bool → Sum) (s : State) :
    accumulate op src compute s =
      finish op (pagePenalty s.config op (operandCrossed s src))
        ((s.advance (1 + src.operandBytes.length)).putSum (compute s.a (operand s src) (s.flag .c))) := rfl

/-- The result of an addition with carry is the unbounded sum modulo 256 (44_arith_compare.md R124). -/
theorem addWithCarry_value_toNat (a v : Byte) (c : Bool) :
    (addWithCarry a v c).value.toNat = (a.toNat + v.toNat + bitValue c) % 256 := BitVec.toNat_ofNat _ _

/-- SBC is ADC of the operand's complement, in the spec's spelling (44_arith_compare.md R125). -/
theorem subtractWithBorrow_eq (a v : Byte) (c : Bool) : subtractWithBorrow a v c = addWithCarry a (0xFF ^^^ v) c := by
  have hcomplement : ~~~v = 0xFF ^^^ v := BitVec.allOnes_xor.symm
  rw [subtractWithBorrow, hcomplement]

/-- An addition with carry of A and w, put into A, is ADC's outcome; PC and the cycle count do not matter to it
(44_arith_compare.md R124). -/
theorem State.putSum_addsWithCarry (s : State) (w : Byte) (n cycles : Nat) :
    AddsWithCarry s w (((s.advance n).putSum (addWithCarry s.a w (s.flag .c))).charge cycles) := by
  generalize hr : addWithCarry s.a w (s.flag .c) = r
  obtain ⟨hzn, hkeptZN⟩ := znOf_and_flagsKept_of_p (s := ((s.advance n).setFlag .c r.carry).setFlag .v r.overflow)
    (t := ((s.advance n).putSum r).charge cycles) (v := r.value) rfl
  obtain ⟨hv, hkeptV⟩ := flag_and_flagsKept_of_setFlag (by decide) hkeptZN
  obtain ⟨hc, hkept⟩ := flag_and_flagsKept_of_setFlag (by decide) hkeptV
  subst hr
  exact ⟨addWithCarry_value_toNat s.a w _, hc, hv, hzn, hkept, rfl, rfl⟩

/-- Without the decimal refusal ADC and SBC are read-class instructions that add to A: `w` is the addend that they make of the operand
(44_arith_compare.md R124, R125). -/
theorem addsWithCarry_of_accumulate {i : Instr} {s : State} {src : Source} {compute : Byte → Byte → Bool → Sum} {w : Byte}
    (hm : i.mnemonic ∈ pageClassMnemonics) (hmode : i.mode = .source src)
    (hexec : exec i s = accumulate i.opcode src compute s)
    (hcompute : compute s.a (specOperand s src) (s.flag .c) = addWithCarry s.a w (s.flag .c)) :
    ∃ t, exec i s = .next t ∧ AddsWithCarry s w t ∧ t.sp = s.sp ∧ t.pc = nextPc i s ∧ SameMemory s t ∧
      EngineKept s t ∧ CostsWith (bitValue (specCrossed s src)) i s t := by
  rw [accumulate_eq, finish_eq, operand_eq_specOperand, hcompute] at hexec
  refine ⟨_, hexec, s.putSum_addsWithCarry w _ _, rfl, advance_operandBytes_pc hmode s, fun _ => rfl, exec_engine hexec,
    fun hclass => ?cost⟩
  case cost =>
    have hpenalty := pagePenalty_operandCrossed hmode (fun _ => hm) hclass
    rw [State.charge_consumed, hpenalty, operandCrossed_eq_specCrossed, Nat.add_assoc]
    rfl

/-- ADC and SBC are not refused when D is clear or the mode is BINARY (60_exceptions.md R172). -/
theorem not_refusesDecimal {s : State} (h : s.flag .d = false ∨ s.config.decimalMode = .binary) :
    ¬ s.refusesDecimal = true := by
  rw [refusesDecimal_iff]
  rintro ⟨hd, hrefuse⟩
  obtain hclear | hbinary := h
  · exact Bool.false_ne_true (hclear.symm.trans hd)
  · cases hbinary.symm.trans hrefuse

/-- ADC and SBC are refused with their opcode and address when D is set under REFUSE (60_exceptions.md R172). -/
theorem exec_refused_of_decimal {i : Instr} {s : State} (hm : i.mnemonic ∈ [Mnemonic.adc, .sbc]) (hd : s.flag .d = true)
    (hrefuse : s.config.decimalMode = .refuse) : exec i s = .refused (.decimalArithmetic i.opcode s.pc) :=
  (exec_refused_iff i s _).2 ⟨(refusesDecimal_iff s).2 ⟨hd, hrefuse⟩, hm, rfl⟩

/-! ### CMP, CPX and CPY -/

/-- A compare's status byte gives C, Z and N of the comparison and keeps the other five flags (44_arith_compare.md R126). -/
theorem compare_flags_of_p {s t : State} {register v : Byte} (hp : t.p = (s.setCompare register v).p) :
    t.flag .c = decide (register.toNat ≥ v.toNat) ∧ ZNOf (register - v) t ∧ FlagsKept [.c, .z, .n] s t := by
  obtain ⟨hzn, hkeptZN⟩ := znOf_and_flagsKept_of_p hp
  obtain ⟨hc, hkept⟩ := flag_and_flagsKept_of_setFlag (by decide) hkeptZN
  exact ⟨hc, hzn, hkept⟩

/-- A mnemonic whose rows all compare one register with the operand has the rule of a read-class instruction. The rows name the
register as it was before the fetch, which does not write it. -/
theorem readClassRule_of_setCompare {m : Mnemonic} {rows : List (ModeName × Byte)} {register : State → Byte}
    (hrows : HasRows m rows) (hcrossing : ∀ r ∈ rows, r.1 ∈ crossingModes → m ∈ pageClassMnemonics)
    (hregister : ∀ s n, register (s.advance n) = register s)
    (hexec : ∀ {i : Instr} {src : Source} (s : State), i.mnemonic = m → i.mode = .source src →
      exec i s = readOperand i.opcode src (fun v t => t.setCompare (register s) v) s) :
    ReadClassRule m rows fun s v t => Compares s (register s) v t := by
  refine readClassRule_of_readOperand (effect := fun v t => t.setCompare (register t) v) hrows hcrossing
    (fun s hi hmode => ?exec) (fun _ _ => ⟨rfl, rfl, fun _ => rfl, rfl, rfl⟩) (fun s v n cycles => ?result)
  case exec => rw [hexec s hi hmode, readOperand_eq, readOperand_eq, hregister]
  case result =>
    rw [hregister]
    obtain ⟨hc, hzn, hkept⟩ := compare_flags_of_p (s := s) (register := register s) (v := v)
      (t := ((s.advance n).setCompare (register s) v).charge cycles) rfl
    exact ⟨hc, hzn, hkept, rfl, rfl, rfl⟩

end Sys2Proof.Machine

open Sys2Proof Sys2Proof.Machine

/-- Settles O43: without the refusal ADC adds the operand itself; the refusal is that of R172. -/
theorem adcAddsOrRefuses : Obligations.AdcAddsOrRefuses := by
  refine ⟨hasRows_of_perm (by decide +kernel), fun i s src hi hmode => ⟨fun hbinary => ?adds, ?refuses⟩⟩
  case adds =>
    have hexec := exec_adc s hi hmode
    rw [adc_eq, if_neg (not_refusesDecimal hbinary)] at hexec
    exact addsWithCarry_of_accumulate (by simp [hi, pageClassMnemonics]) hmode hexec rfl
  case refuses => exact exec_refused_of_decimal (by simp [hi])

/-- Settles O44: SBC is ADC of the operand's complement, with the same refusal. -/
theorem sbcSubtractsOrRefuses : Obligations.SbcSubtractsOrRefuses := by
  refine ⟨hasRows_of_perm (by decide +kernel), fun i s src hi hmode => ⟨fun hbinary => ?adds, ?refuses⟩⟩
  case adds =>
    have hexec := exec_sbc s hi hmode
    rw [sbc_eq, if_neg (not_refusesDecimal hbinary)] at hexec
    exact addsWithCarry_of_accumulate (by simp [hi, pageClassMnemonics]) hmode hexec (subtractWithBorrow_eq ..)
  case refuses => exact exec_refused_of_decimal (by simp [hi])

/-- Settles O47: each compare writes C and then `SetZN` of the difference of its register and the operand, and reads no flag. -/
theorem comparesSetFlags : Obligations.ComparesSetFlags := by
  refine ⟨?cmp, ?cpx, ?cpy⟩
  case cmp =>
    exact readClassRule_of_setCompare (hasRows_of_perm (by decide +kernel)) (by decide) (fun _ _ => rfl) exec_cmp
  case cpx =>
    exact readClassRule_of_setCompare (hasRows_of_perm (by decide +kernel)) (by decide) (fun _ _ => rfl) exec_cpx
  case cpy =>
    exact readClassRule_of_setCompare (hasRows_of_perm (by decide +kernel)) (by decide) (fun _ _ => rfl) exec_cpy

end

section
/-! PROOF. The rules of the increment, decrement, shift and rotate instructions: the bytes that they compute, as numbers, and what the
operations that they share write (45_incdec_shift.md R129 to R138). -/

namespace Sys2Proof.Machine

/-! ### The new bytes as numbers -/

/-- Counting a byte up wraps at 256 (45_incdec_shift.md R129, R131, R132). -/
theorem add_one_toNat (v : Byte) : (v + 1).toNat = (v.toNat + 1) % 256 := BitVec.toNat_add v 1

/-- Counting a byte down wraps at 0: it is adding 255 (45_incdec_shift.md R130, R133, R134). -/
theorem sub_one_toNat (v : Byte) : (v - 1).toNat = (v.toNat + 255) % 256 := by bv_omega

/-- ASL doubles the byte modulo 256 (45_incdec_shift.md R135). -/
theorem asl_toNat (v : Byte) (c : Bool) : (asl v c).1.toNat = 2 * v.toNat % 256 := by
  rw [asl, BitVec.toNat_shiftLeft, Nat.shiftLeft_eq, Nat.mul_comm]

/-- LSR halves the byte (45_incdec_shift.md R136). -/
theorem lsr_toNat (v : Byte) (c : Bool) : (lsr v c).1.toNat = v.toNat / 2 := BitVec.toNat_ushiftRight v 1

/-- ROL is ASL with the old carry in bit 0, which ASL leaves clear, so that the OR is a sum (45_incdec_shift.md R137). -/
theorem rol_toNat (v : Byte) (c : Bool) : (rol v c).1.toNat = (2 * v.toNat + bitValue c) % 256 := by
  have hrol : (rol v c).1 = (asl v c).1 ||| (if c then 0x01 else 0x00) := rfl
  have hdouble : 2 * v.toNat % 256 = 2 ^ 1 * (v.toNat % 128) := Nat.mul_mod_mul_left 2 v.toNat 128
  rw [hrol, BitVec.toNat_or, asl_toNat]
  cases c with
  | false => exact Nat.or_zero _
  | true =>
    calc 2 * v.toNat % 256 ||| 1
      _ = 2 ^ 1 * (v.toNat % 128) + 1 := by rw [hdouble, Nat.two_pow_add_eq_or_of_lt Nat.one_lt_two]
      _ = (2 * v.toNat + 1) % 256 := by omega

/-- ROR is LSR with the old carry in bit 7, which LSR leaves clear, so that the OR is a sum (45_incdec_shift.md R138). -/
theorem ror_toNat (v : Byte) (c : Bool) : (ror v c).1.toNat = v.toNat / 2 + 128 * bitValue c := by
  have hror : (ror v c).1 = (lsr v c).1 ||| (if c then 0x80 else 0x00) := rfl
  have hhalf : v.toNat / 2 < 2 ^ 7 := Nat.div_lt_of_lt_mul v.isLt
  rw [hror, BitVec.toNat_or, lsr_toNat]
  cases c with
  | false => exact Nat.or_zero _
  | true =>
    calc v.toNat / 2 ||| 2 ^ 7 * 1
      _ = 2 ^ 7 * 1 + v.toNat / 2 := by rw [Nat.or_comm, Nat.two_pow_add_eq_or_of_lt hhalf]
      _ = v.toNat / 2 + 128 * 1 := Nat.add_comm ..

/-! ### The flags and the byte that the shared operations write -/

/-- INC and DEC write Z and N, from the new byte (45_incdec_shift.md R129, R130). -/
theorem modifyMemory_flags {op : Byte} {mode : MemMode} {compute : Byte → Byte} {s t : State}
    (h : modifyMemory op mode compute s = .next t) :
    ZNOf (compute (s.byteAt (resolve s mode).ea)) t ∧ FlagsKept [.z, .n] s t := by
  rw [modifyMemory_eq] at h
  cases h
  exact znOf_and_flagsKept_of_p rfl

/-- A write of C and then `SetZN(v)` give C, and Z and N of v, and keep the other five flags, whatever else the instruction writes
(45_incdec_shift.md R135). -/
theorem carry_znOf_and_flagsKept_of_p {s t : State} {carry : Bool} {v : Byte}
    (hp : t.p = ((s.setFlag .c carry).setZN v).p) :
    t.flag .c = carry ∧ ZNOf v t ∧ FlagsKept [.c, .z, .n] s t := by
  obtain ⟨hzn, hkeptZN⟩ := znOf_and_flagsKept_of_p hp
  obtain ⟨hc, hkept⟩ := flag_and_flagsKept_of_setFlag (by decide) hkeptZN
  exact ⟨hc, hzn, hkept⟩

/-- A shift of A writes C, Z and N, from what it makes of A and the old carry (45_incdec_shift.md R135 to R138). -/
theorem shiftAccumulator_flags {op : Byte} {shift : Byte → Bool → Byte × Bool} {s t : State}
    (h : shiftAccumulator op shift s = .next t) :
    t.flag .c = (shift s.a (s.flag .c)).2 ∧ ZNOf (shift s.a (s.flag .c)).1 t ∧ FlagsKept [.c, .z, .n] s t := by
  rw [shiftAccumulator_eq] at h
  cases h
  exact carry_znOf_and_flagsKept_of_p rfl

/-- A shift of a memory byte writes C, Z and N, from what it makes of the byte and the old carry (45_incdec_shift.md R135 to
R138). -/
theorem shiftMemory_flags {op : Byte} {shift : Byte → Bool → Byte × Bool} {mode : MemMode} {s t : State}
    (h : shiftMemory op shift mode s = .next t) :
    let r := shift (s.byteAt (resolve s mode).ea) (s.flag .c)
    t.flag .c = r.2 ∧ ZNOf r.1 t ∧ FlagsKept [.c, .z, .n] s t := by
  rw [shiftMemory_eq] at h
  cases h
  exact carry_znOf_and_flagsKept_of_p rfl

/-- One store to memory, whatever else the instruction writes, leaves one byte changed (20_memory.md R46). -/
theorem oneByteWritten_of_mem {s t : State} {ea : Addr} {v : Byte} (hmem : t.mem = (s.setByte ea v).mem) :
    OneByteWritten s t ea v := by
  have hbyte (k : Addr) : t.byteAt k = (s.setByte ea v).byteAt k := congrArg (Memory.read · k.toNat) hmem
  obtain ⟨hwritten, hothers⟩ := State.setByte_oneByteWritten s ea v
  exact ⟨(hbyte ea).trans hwritten, fun k hk => (hbyte k).trans (hothers k hk)⟩

/-! ### The rules, from the operations that a mnemonic's rows share -/

/-- A mnemonic whose rows all change one byte of memory has the rule of INC and DEC. -/
theorem modifyRule_of_modifyMemory {m : Mnemonic} {rows : List (ModeName × Byte)} {compute : Byte → Byte}
    {value : Nat → Nat} (hrows : HasRows m rows)
    (hexec : ∀ {i : Instr} {mode : MemMode} (s : State), i.mnemonic = m → i.mode = .source (.memory mode) →
      exec i s = modifyMemory i.opcode mode compute s)
    (hvalue : ∀ v, (compute v).toNat = value v.toNat) :
    ModifyRule m rows value := by
  refine ⟨hrows, fun i s mode hi hmode => ?_⟩
  have hnext := hexec s hi hmode
  obtain ⟨hzn, hkept⟩ := modifyMemory_flags (modifyMemory_eq i.opcode mode compute s)
  rw [modifyMemory_eq] at hnext
  have hpc : s.pc + BitVec.ofNat 16 (1 + mode.operandBytes.length) = nextPc i s := advance_operandBytes_pc hmode s
  refine ⟨_, _, hnext, hvalue _, ?byte, ?registers, hzn, hkept, exec_engine hnext, ?cost⟩
  case byte => exact oneByteWritten_of_mem rfl
  case registers => simp [RegistersAre, hpc]
  case cost => simp [CostsBase]

/-- PC past an accumulator form, which has no operand byte (30_encoding.md R62, R79). -/
theorem add_one_eq_nextPc_of_accumulator {i : Instr} (hmode : i.mode = .accumulator) (s : State) :
    s.pc + 1 = nextPc i s := by
  rw [nextPc, Instr.length_eq, hmode]
  rfl

/-- A mnemonic whose rows all shift A or one byte of memory by one function has the rule of a shift. -/
theorem shiftRule_of_shift {m : Mnemonic} {rows : List (ModeName × Byte)} {shift : Byte → Bool → Byte × Bool}
    {value : Nat → Nat → Nat} {carryBit : Nat} (hrows : HasRows m rows)
    (haccumulator : ∀ {i : Instr} (s : State), i.mnemonic = m → i.mode = .accumulator →
      exec i s = shiftAccumulator i.opcode shift s)
    (hmemory : ∀ {i : Instr} {mode : MemMode} (s : State), i.mnemonic = m → i.mode = .source (.memory mode) →
      exec i s = shiftMemory i.opcode shift mode s)
    (hvalue : ∀ v c, (shift v c).1.toNat = value v.toNat (bitValue c))
    (hcarry : ∀ v c, (shift v c).2 = v.getLsbD carryBit) :
    ShiftRule m rows value carryBit := by
  refine ⟨hrows, fun i s hi hmode => ?accumulator, fun i s mode hi hmode => ?memory⟩
  case accumulator =>
    have hnext := haccumulator s hi hmode
    obtain ⟨hc, hzn, hkept⟩ := shiftAccumulator_flags (shiftAccumulator_eq i.opcode shift s)
    rw [shiftAccumulator_eq] at hnext
    have hpc := add_one_eq_nextPc_of_accumulator hmode s
    refine ⟨_, _, hnext, hvalue _ _, ?_, fun k => ?_, hc.trans (hcarry _ _), hzn, hkept, exec_engine hnext, ?_⟩
    · simpa [RegistersAre] using hpc
    · simp
    · simp [CostsBase]
  case memory =>
    have hnext := hmemory s hi hmode
    obtain ⟨hc, hzn, hkept⟩ := shiftMemory_flags (shiftMemory_eq i.opcode shift mode s)
    rw [shiftMemory_eq] at hnext
    have hpc : s.pc + BitVec.ofNat 16 (1 + mode.operandBytes.length) = nextPc i s := advance_operandBytes_pc hmode s
    refine ⟨_, _, hnext, hvalue _ _, ?_, ?_, hc.trans (hcarry _ _), hzn, hkept, exec_engine hnext, ?_⟩
    · exact oneByteWritten_of_mem rfl
    · simp [RegistersAre, hpc]
    · simp [CostsBase]

end Sys2Proof.Machine

open Sys2Proof Sys2Proof.Machine

/-- Settles O48: INC and DEC are one operation on memory, with the byte counted up or down. -/
theorem incDecModifyMemory : Obligations.IncDecModifyMemory := by
  refine ⟨?inc, ?dec⟩
  case inc => exact modifyRule_of_modifyMemory (hasRows_of_perm (by decide +kernel)) exec_inc add_one_toNat
  case dec => exact modifyRule_of_modifyMemory (hasRows_of_perm (by decide +kernel)) exec_dec sub_one_toNat

/-- Settles O49: each of the four writes one register with the byte counted up or down, and `SetZN` of it. -/
theorem incDecRegisters : Obligations.IncDecRegisters := by
  refine ⟨?inx, ?iny, ?dex, ?dey⟩
  case inx =>
    exact impliedRule_of_finish (hasRows_of_perm (by decide +kernel)) exec_inx (fun _ => ⟨rfl, fun _ => rfl, rfl⟩)
      (fun s _ => ⟨add_one_toNat s.x, rfl, and_assoc.1 ⟨znOf_and_flagsKept_of_p rfl, rfl, rfl⟩⟩)
  case iny =>
    exact impliedRule_of_finish (hasRows_of_perm (by decide +kernel)) exec_iny (fun _ => ⟨rfl, fun _ => rfl, rfl⟩)
      (fun s _ => ⟨add_one_toNat s.y, rfl, and_assoc.1 ⟨znOf_and_flagsKept_of_p rfl, rfl, rfl⟩⟩)
  case dex =>
    exact impliedRule_of_finish (hasRows_of_perm (by decide +kernel)) exec_dex (fun _ => ⟨rfl, fun _ => rfl, rfl⟩)
      (fun s _ => ⟨sub_one_toNat s.x, rfl, and_assoc.1 ⟨znOf_and_flagsKept_of_p rfl, rfl, rfl⟩⟩)
  case dey =>
    exact impliedRule_of_finish (hasRows_of_perm (by decide +kernel)) exec_dey (fun _ => ⟨rfl, fun _ => rfl, rfl⟩)
      (fun s _ => ⟨sub_one_toNat s.y, rfl, and_assoc.1 ⟨znOf_and_flagsKept_of_p rfl, rfl, rfl⟩⟩)

/-- Settles O50: ASL and ROL are one operation on A or on memory, and carry bit 7 out. -/
theorem leftShifts : Obligations.LeftShifts := by
  refine ⟨?asl, ?rol⟩
  case asl =>
    exact shiftRule_of_shift (hasRows_of_perm (by decide +kernel)) exec_asl_accumulator exec_asl_memory asl_toNat
      (fun _ _ => rfl)
  case rol =>
    exact shiftRule_of_shift (hasRows_of_perm (by decide +kernel)) exec_rol_accumulator exec_rol_memory rol_toNat
      (fun _ _ => rfl)

/-- Settles O51: LSR and ROR are the same operation, and carry bit 0 out. -/
theorem rightShifts : Obligations.RightShifts := by
  refine ⟨?lsr, ?ror⟩
  case lsr =>
    exact shiftRule_of_shift (hasRows_of_perm (by decide +kernel)) exec_lsr_accumulator exec_lsr_memory lsr_toNat
      (fun _ _ => rfl)
  case ror =>
    exact shiftRule_of_shift (hasRows_of_perm (by decide +kernel)) exec_ror_accumulator exec_ror_memory ror_toNat
      (fun _ _ => rfl)

end

section
/-! PROOF. The rules of the branches, the flag instructions and NOP: a branch's target and penalty in wrap-around numbers, and the one
flag that a flag write changes (46_branch_flag.md R139 to R155). -/

namespace Sys2Proof.Machine

/-! ### Branches -/

/-- A branch's target, the signed displacement from the next instruction, modulo 65536 (30_encoding.md R80). -/
theorem branchTarget_toNat (pc : Addr) (d : Byte) :
    ((pc + 2 + signExtend16 d).toNat : Int) = (pc.toNat + 2 + d.toInt) % 65536 := by
  have hsign : ((signExtend16 d).toNat : Int) = d.toInt % 65536 := by
    rw [signExtend16, BitVec.signExtend, BitVec.toNat_ofInt]
    exact Int.toNat_of_nonneg (Int.emod_nonneg _ (by decide))
  have htwo : (2 : Addr).toNat = 2 := rfl
  simp only [BitVec.toNat_add, htwo]
  omega

/-- A taken branch with the class of R204 costs 1 more, or 2 more into another page than `next`'s (46_branch_flag.md R139). -/
theorem branchPenalty_otherPage {c : Config} {op : Byte} (h : penaltyClass c op = .branch) (target next : Addr) :
    branchPenalty c op (hiByte target != hiByte next) =
      if target.toNat / 256 = next.toNat / 256 then 1 else 2 := by
  rw [branchPenalty_of_branch h, ← hiByte_toNat, ← hiByte_toNat]
  by_cases hpage : hiByte target = hiByte next
  · simp [hpage]
  · simp [hpage, BitVec.toNat_inj]

/-- A mnemonic that branches on a test of one flag, which holds for one value of it, has the rule of a branch. -/
theorem branchRule_of_branch {m : Mnemonic} {op : Byte} {f : Flag} {value : Bool} (test : Bool → Bool)
    (hrows : HasRows m [(.relative, op)]) (hm : m ∈ branchMnemonics)
    (hexec : ∀ {i : Instr} {d : Byte} (s : State), i.mnemonic = m → i.mode = .relative d →
      exec i s = branch i.opcode (test (s.flag f)) d s)
    (htest : ∀ b, test b = true ↔ b = value) :
    BranchRule m op f value := by
  refine ⟨hrows, fun i s d hi hmode => ?_⟩
  have hnext := hexec s hi hmode
  by_cases hf : s.flag f = value
  case pos =>
    rw [(htest _).2 hf, branch_taken] at hnext
    refine ⟨_, hnext, fun _ => ⟨branchTarget_toNat s.pc d, fun hclass => ?cost⟩, fun hne => absurd hf hne, rfl, rfl, rfl, rfl,
      rfl, fun _ => rfl, exec_engine hnext⟩
    case cost =>
      have hbranch : specPenalty i.mnemonic i.mode.name = .branch := if_pos (hi ▸ hm)
      rw [State.charge_consumed, branchPenalty_otherPage (hclass.trans hbranch), Nat.add_assoc]
      rfl
  case neg =>
    rw [Bool.eq_false_iff.2 (mt (htest _).1 hf), branch_not_taken] at hnext
    exact ⟨_, hnext, fun heq => absurd heq hf, fun _ => ⟨rfl, rfl⟩, rfl, rfl, rfl, rfl, rfl, fun _ => rfl, exec_engine hnext⟩

/-! ### Flag instructions -/

/-- A mnemonic of one implied row that writes one flag has the rule of a flag instruction. -/
theorem flagRule_of_writeFlag {m : Mnemonic} {op : Byte} {f : Flag} {value : Bool} (hrows : HasRows m [(.implied, op)])
    (hexec : ∀ {i : Instr} (s : State), i.mnemonic = m → exec i s = writeFlag i.opcode f value s) :
    FlagRule m op f value := by
  refine impliedRule_of_finish (after := fun s => (s.advance 1).setFlag f value) hrows hexec
    (fun _ => ⟨rfl, fun _ => rfl, rfl⟩) (fun s cycles => ?result)
  case result =>
    obtain ⟨hwritten, hkept⟩ := flag_and_flagsKept_of_setFlag (s := s) (t := ((s.advance 1).setFlag f value).charge cycles)
      List.not_mem_nil (fun _ _ => rfl)
    exact ⟨hwritten, hkept, rfl, rfl, rfl, rfl⟩

end Sys2Proof.Machine

open Sys2Proof Sys2Proof.Machine

/-- Settles O52: each branch is one operation on a test of its flag, which the four branches on a clear flag negate. -/
theorem branchesTransferOnFlag : Obligations.BranchesTransferOnFlag := by
  refine ⟨?bpl, ?bmi, ?bvc, ?bvs, ?bcc, ?bcs, ?bne, ?beq⟩
  case bpl => exact branchRule_of_branch not (hasRows_of_perm (by decide +kernel)) (by decide) exec_bpl (by decide)
  case bmi => exact branchRule_of_branch id (hasRows_of_perm (by decide +kernel)) (by decide) exec_bmi (by decide)
  case bvc => exact branchRule_of_branch not (hasRows_of_perm (by decide +kernel)) (by decide) exec_bvc (by decide)
  case bvs => exact branchRule_of_branch id (hasRows_of_perm (by decide +kernel)) (by decide) exec_bvs (by decide)
  case bcc => exact branchRule_of_branch not (hasRows_of_perm (by decide +kernel)) (by decide) exec_bcc (by decide)
  case bcs => exact branchRule_of_branch id (hasRows_of_perm (by decide +kernel)) (by decide) exec_bcs (by decide)
  case bne => exact branchRule_of_branch not (hasRows_of_perm (by decide +kernel)) (by decide) exec_bne (by decide)
  case beq => exact branchRule_of_branch id (hasRows_of_perm (by decide +kernel)) (by decide) exec_beq (by decide)

/-- Settles O53: each flag instruction is one flag write, with its own flag and value. -/
theorem flagInstructionsWriteOneFlag : Obligations.FlagInstructionsWriteOneFlag := by
  refine ⟨?clc, ?sec, ?cli, ?sei, ?clv, ?cld, ?sed⟩
  case clc => exact flagRule_of_writeFlag (hasRows_of_perm (by decide +kernel)) exec_clc
  case sec => exact flagRule_of_writeFlag (hasRows_of_perm (by decide +kernel)) exec_sec
  case cli => exact flagRule_of_writeFlag (hasRows_of_perm (by decide +kernel)) exec_cli
  case sei => exact flagRule_of_writeFlag (hasRows_of_perm (by decide +kernel)) exec_sei
  case clv => exact flagRule_of_writeFlag (hasRows_of_perm (by decide +kernel)) exec_clv
  case cld => exact flagRule_of_writeFlag (hasRows_of_perm (by decide +kernel)) exec_cld
  case sed => exact flagRule_of_writeFlag (hasRows_of_perm (by decide +kernel)) exec_sed

/-- Settles O54: NOP finishes with PC past its opcode, and charges its base cost. -/
theorem nopOnlyAdvancesPc : Obligations.NopOnlyAdvancesPc := by
  refine ⟨hasRows_of_perm (by decide +kernel), fun s => ?next⟩
  case next =>
    rw [exec_nop s rfl, finish_eq]
    rfl

end

section
/-! PROOF. The opcode of what the decoder reads: an instruction at PC has the byte at PC as its opcode, and runs when the latch is
clear (30_encoding.md R82, R83). -/

namespace Sys2Proof

/-- The instruction a format makes when its operand is the byte or the word given, whichever it takes. -/
def Format.make : Format → Byte → Addr → Instr
  | .f1 i, _, _ => i
  | .f2 build, b, _ => build b
  | .f3 build, _, w => build w

/-- No entry of the opcode map lets its operand choose the opcode (30_encoding.md R85). -/
theorem opcodeMap_make_opcode (b : Byte) (w : Addr) :
    opcodeMap.map (List.map (Option.map fun e => (e.format.make b w).opcode)) =
      opcodeMap.map (List.map (Option.map fun e => e.format.blank.opcode)) := by rfl

/-- A function of the entries is read off at an opcode byte as the entry is. -/
theorem opcodeEntry_map {α : Type} (f : Entry → α) (op : Byte) :
    (opcodeEntry op).map f =
      ((opcodeMap.map (List.map (Option.map f))).getD (op.toNat / 16) []).getD (op.toNat % 16) none := by
  have hrow : (opcodeMap.map (List.map (Option.map f))).getD (op.toNat / 16) [] =
      (opcodeMap.getD (op.toNat / 16) []).map (Option.map f) := List.getD_map (d := []) (f := List.map (Option.map f)) ..
  rw [hrow]
  exact (List.getD_map (d := none) (f := Option.map f) ..).symm

/-- Every instruction that an entry makes has the opcode where the entry stands. -/
theorem make_opcode {op : Byte} {e : Entry} (he : opcodeEntry op = some e) (b : Byte) (w : Addr) :
    (e.format.make b w).opcode = op := by
  have hblank : (opcodeEntry op).map (fun e => (e.format.make b w).opcode) =
      (opcodeEntry op).map fun e => e.format.blank.opcode := by
    rw [opcodeEntry_map, opcodeEntry_map, opcodeMap_make_opcode]
  rw [he] at hblank
  exact (Option.some.inj hblank).trans (opcode_blank op e he)

/-- The opcode of a decoded instruction is the first byte. -/
theorem decode_opcode {set : InstructionSet} {op : Byte} {bytes rest : List Byte} {i : Instr}
    (h : decode set (op :: bytes) = .ok (i, rest)) : i.opcode = op := by
  obtain ⟨op', format, hd, hformat⟩ := decode_cases h
  obtain ⟨e, he, -, rfl⟩ := dispatch_eq_some hd
  obtain ⟨hf, hbytes⟩ | ⟨build, b, hf, rfl, hbytes⟩ | ⟨build, l, hi, hf, rfl, hbytes⟩ := hformat
  all_goals
    obtain rfl := (List.cons.inj hbytes).1
    have hmake := make_opcode he
    rw [hf] at hmake
  case inl => exact hmake 0x00 0x0000
  case inr.inl => exact hmake b 0x0000
  case inr.inr => exact hmake 0x00 (joinBytes hi l)

end Sys2Proof

namespace Sys2Proof.Machine

theorem State.fetched_eq_some_iff (s : State) (i : Instr) :
    s.fetched = some i ↔ ∃ rest, decode s.config.instructionSet s.fetchBytes = .ok (i, rest) := by
  unfold State.fetched
  cases h : decode s.config.instructionSet s.fetchBytes with
  | ok r => simp [Prod.ext_iff]
  | error e => simp

theorem State.fetched_opcode {s : State} {i : Instr} (h : s.fetched = some i) : i.opcode = s.byteAt s.pc := by
  obtain ⟨rest, hdecode⟩ := (s.fetched_eq_some_iff i).1 h
  exact decode_opcode hdecode

theorem step_of_fetched {s : State} {i : Instr} (hlatch : s.latched = false) (h : s.fetched = some i) :
    step s = exec i s := by
  obtain ⟨rest, hdecode⟩ := (s.fetched_eq_some_iff i).1 h
  simp [step, hlatch, hdecode]

end Sys2Proof.Machine
end

section
/-! PROOF. The two abnormal steps, a decode failure and a decimal refusal, and the call that meets one: the turns of the execute
loop by what the step answers (60_exceptions.md R170 to R172; 70_reset_and_hazards.md R207). -/

namespace Sys2Proof.Machine

/-! ### The steps -/

theorem State.latched_iff (s : State) : s.latched = true ↔ s.config.unknownOpcode = .halt ∧ s.halted = true := by
  simp [State.latched]

/-- The latch stops the step (10_state.md R41). -/
theorem step_of_latched {s : State} (h : s.latched = true) : step s = .fault .halted := by
  simp [step, h]

/-- With the latch clear, a byte without a handler makes the step a decode failure (60_exceptions.md R170). -/
theorem step_of_noHandler {s : State} (hlatch : s.latched = false)
    (hnone : dispatch s.config.instructionSet (s.byteAt s.pc) = none) : step s = .next s.takeDecodeFailure := by
  obtain ⟨-, -, hfailure⟩ := unhandledBytesFailToDecode
  exact hfailure s hlatch hnone

/-- Under LOG_AND_CONTINUE a decode failure leaves the latch alone (60_exceptions.md R170). -/
theorem State.takeDecodeFailure_of_logAndContinue {s : State} (h : s.config.unknownOpcode = .logAndContinue) :
    s.takeDecodeFailure = { s with
      pc := s.pc + 1
      reports := s.reports ++ [⟨s.byteAt s.pc, s.pc⟩]
      consumed := s.consumed + 1 } := by
  simp [State.takeDecodeFailure, h]

/-- Under HALT a decode failure also sets the latch (60_exceptions.md R171). -/
theorem State.takeDecodeFailure_of_halt {s : State} (h : s.config.unknownOpcode = .halt) :
    s.takeDecodeFailure = { s with
      pc := s.pc + 1
      reports := s.reports ++ [⟨s.byteAt s.pc, s.pc⟩]
      consumed := s.consumed + 1
      halted := true } := by
  simp [State.takeDecodeFailure, h]

/-- Under HALT the machine is latched after a decode failure (60_exceptions.md R171). -/
theorem State.takeDecodeFailure_latched {s : State} (h : s.config.unknownOpcode = .halt) :
    s.takeDecodeFailure.latched = true :=
  (State.latched_iff _).2 ⟨h, if_pos h⟩

/-- ADC and SBC with D set under REFUSE stop the step with the opcode byte and its address (60_exceptions.md R172). -/
theorem step_refused_of_decimal {s : State} {i : Instr} (hlatch : s.latched = false) (hi : s.fetched = some i)
    (hm : i.mnemonic ∈ [Mnemonic.adc, .sbc]) (hd : s.flag .d = true) (hrefuse : s.config.decimalMode = .refuse) :
    step s = .refused (.decimalArithmetic (s.byteAt s.pc) s.pc) := by
  rw [step_of_fetched hlatch hi, exec_refused_of_decimal hm hd hrefuse, State.fetched_opcode hi]

/-! ### The call -/

/-- A call with budget begins Running (10_state.md R43). -/
theorem State.beginCall_running (s : State) {budget : Nat} (h : 0 < budget) : (s.beginCall budget).running = true :=
  decide_eq_true h

theorem callLoop_of_next {s t : State} (turns : Nat) (hrun : s.running = true) (h : step s = .next t) :
    callLoop (turns + 1) s = callLoop turns t := by
  simp [callLoop, hrun, h]

theorem callLoop_of_refused {s : State} {r : Refusal} (turns : Nat) (hrun : s.running = true) (h : step s = .refused r) :
    callLoop (turns + 1) s = (.refused r, s) := by
  simp [callLoop, hrun, h]

/-- With the latch set the loop runs no step, however many turns are left (70_reset_and_hazards.md R207). -/
theorem callLoop_of_latched {s : State} (turns : Nat) (h : s.latched = true) : callLoop turns s = (.ok, s) := by
  cases turns with
  | zero => rfl
  | succ n => simp [callLoop, step_of_latched h]

theorem execute_of_callLoop {budget : Nat} {s t : State} {outcome : CallOutcome}
    (h : callLoop budget (s.beginCall budget) = (outcome, t)) :
    execute budget s = ⟨t.consumed, t.reports, outcome, t.endCall⟩ := by
  simp only [execute, h]

/-- A call on a latched machine returns 0 and runs no step (60_exceptions.md R171). -/
theorem execute_of_latched {s : State} (budget : Nat) (h : s.latched = true) : execute budget s = ⟨0, [], .ok, s.endCall⟩ :=
  execute_of_callLoop (callLoop_of_latched budget h)

/-- A call whose first step is refused ends there, as it began (60_exceptions.md R172). -/
theorem execute_of_refused {s : State} {r : Refusal} {budget : Nat} (hbudget : 0 < budget)
    (h : step (s.beginCall budget) = .refused r) : execute budget s = ⟨0, [], .refused r, s.endCall⟩ := by
  obtain ⟨turns, rfl⟩ := Nat.exists_eq_add_one.2 hbudget
  exact execute_of_callLoop (callLoop_of_refused turns (s.beginCall_running hbudget) h)

/-- A call whose first step latches the machine ends after that step (60_exceptions.md R171). -/
theorem execute_of_next_latched {s t : State} {budget : Nat} (hbudget : 0 < budget)
    (h : step (s.beginCall budget) = .next t) (ht : t.latched = true) :
    execute budget s = ⟨t.consumed, t.reports, .ok, t.endCall⟩ := by
  obtain ⟨turns, rfl⟩ := Nat.exists_eq_add_one.2 hbudget
  exact execute_of_callLoop ((callLoop_of_next turns (s.beginCall_running hbudget) h).trans (callLoop_of_latched turns ht))

end Sys2Proof.Machine

open Sys2Proof Sys2Proof.Machine

/-- Settles O9: under LOG_AND_CONTINUE there is no latch, neither before the step nor set by it. -/
theorem decodeFailureContinues : Obligations.DecodeFailureContinues := by
  intro s hcontinue hnone
  have hlatch : s.latched = false := by simp [State.latched, hcontinue]
  rw [step_of_noHandler hlatch hnone, State.takeDecodeFailure_of_logAndContinue hcontinue]

/-- Settles O10: the failing step sets the latch, and the loop runs no step with the latch set. -/
theorem decodeFailureHalts : Obligations.DecodeFailureHalts := by
  intro s hhalt hclear hnone stopped
  have hlatch : s.latched = false := by simp [State.latched, hclear]
  refine ⟨?step, fun budget hbudget => ?call, fun budget => ?later, rfl⟩
  case step =>
    rw [step_of_noHandler hlatch hnone, State.takeDecodeFailure_of_halt hhalt]
  case call =>
    have hstep : step (s.beginCall budget) = .next (s.beginCall budget).takeDecodeFailure := step_of_noHandler hlatch hnone
    rw [execute_of_next_latched hbudget hstep (State.takeDecodeFailure_latched hhalt),
      State.takeDecodeFailure_of_halt (s := s.beginCall budget) hhalt]
    rfl
  case later =>
    exact execute_of_latched budget ((State.latched_iff _).2 ⟨hhalt, rfl⟩)

/-- Settles O45: the refusal is the step's answer, and the loop passes it on with nothing consumed. -/
theorem decimalRefusalStopsTheCall : Obligations.DecimalRefusalStopsTheCall := by
  intro s i hlatch hi hm hd hrefuse
  refine ⟨step_refused_of_decimal hlatch hi hm hd hrefuse, fun budget hbudget => ?call⟩
  case call =>
    have hstep : step (s.beginCall budget) = .refused (.decimalArithmetic (s.byteAt s.pc) s.pc) :=
      step_refused_of_decimal (s := s.beginCall budget) hlatch hi hm hd hrefuse
    rw [execute_of_refused hbudget hstep]
    exact ⟨rfl, rfl, rfl⟩

end

section
/-! PROOF. The decoder and the encoder undo each other, and a step runs the instruction whose bytes stand at PC (30_encoding.md R62
to R64, R81 to R85). -/

namespace Sys2Proof.Laws.TableEntry

/-- The opcode map builds every instruction back from its operand bytes. -/
theorem statement : ∀ i : Instr, Statement i
  | .ldaImm b => ldaImm b | .ldaZp b => ldaZp b | .ldaZpX b => ldaZpX b | .ldaAbs w => ldaAbs w
  | .ldaAbsX w => ldaAbsX w | .ldaAbsY w => ldaAbsY w | .ldaIndX b => ldaIndX b | .ldaIndY b => ldaIndY b
  | .ldxImm b => ldxImm b | .ldxZp b => ldxZp b | .ldxZpY b => ldxZpY b | .ldxAbs w => ldxAbs w
  | .ldxAbsY w => ldxAbsY w | .ldyImm b => ldyImm b | .ldyZp b => ldyZp b | .ldyZpX b => ldyZpX b
  | .ldyAbs w => ldyAbs w | .ldyAbsX w => ldyAbsX w | .staZp b => staZp b | .staZpX b => staZpX b
  | .staAbs w => staAbs w | .staAbsX w => staAbsX w | .staAbsY w => staAbsY w | .staIndX b => staIndX b
  | .staIndY b => staIndY b | .stxZp b => stxZp b | .stxZpY b => stxZpY b | .stxAbs w => stxAbs w
  | .styZp b => styZp b | .styZpX b => styZpX b | .styAbs w => styAbs w | .tax => tax | .tay => tay | .txa => txa
  | .tya => tya | .tsx => tsx | .txs => txs | .pha => pha | .php => php | .pla => pla | .plp => plp
  | .andImm b => andImm b | .andZp b => andZp b | .andZpX b => andZpX b | .andAbs w => andAbs w
  | .andAbsX w => andAbsX w | .andAbsY w => andAbsY w | .andIndX b => andIndX b | .andIndY b => andIndY b
  | .eorImm b => eorImm b | .eorZp b => eorZp b | .eorZpX b => eorZpX b | .eorAbs w => eorAbs w
  | .eorAbsX w => eorAbsX w | .eorAbsY w => eorAbsY w | .eorIndX b => eorIndX b | .eorIndY b => eorIndY b
  | .oraImm b => oraImm b | .oraZp b => oraZp b | .oraZpX b => oraZpX b | .oraAbs w => oraAbs w
  | .oraAbsX w => oraAbsX w | .oraAbsY w => oraAbsY w | .oraIndX b => oraIndX b | .oraIndY b => oraIndY b
  | .bitZp b => bitZp b | .bitAbs w => bitAbs w | .jmpAbs w => jmpAbs w | .jmpInd w => jmpInd w | .jsr w => jsr w
  | .rts => rts | .adcImm b => adcImm b | .adcZp b => adcZp b | .adcZpX b => adcZpX b | .adcAbs w => adcAbs w
  | .adcAbsX w => adcAbsX w | .adcAbsY w => adcAbsY w | .adcIndX b => adcIndX b | .adcIndY b => adcIndY b
  | .sbcImm b => sbcImm b | .sbcZp b => sbcZp b | .sbcZpX b => sbcZpX b | .sbcAbs w => sbcAbs w
  | .sbcAbsX w => sbcAbsX w | .sbcAbsY w => sbcAbsY w | .sbcIndX b => sbcIndX b | .sbcIndY b => sbcIndY b
  | .cmpImm b => cmpImm b | .cmpZp b => cmpZp b | .cmpZpX b => cmpZpX b | .cmpAbs w => cmpAbs w
  | .cmpAbsX w => cmpAbsX w | .cmpAbsY w => cmpAbsY w | .cmpIndX b => cmpIndX b | .cmpIndY b => cmpIndY b
  | .cpxImm b => cpxImm b | .cpxZp b => cpxZp b | .cpxAbs w => cpxAbs w | .cpyImm b => cpyImm b | .cpyZp b => cpyZp b
  | .cpyAbs w => cpyAbs w | .incZp b => incZp b | .incZpX b => incZpX b | .incAbs w => incAbs w
  | .incAbsX w => incAbsX w | .decZp b => decZp b | .decZpX b => decZpX b | .decAbs w => decAbs w
  | .decAbsX w => decAbsX w | .inx => inx | .iny => iny | .dex => dex | .dey => dey | .aslAcc => aslAcc
  | .aslZp b => aslZp b | .aslZpX b => aslZpX b | .aslAbs w => aslAbs w | .aslAbsX w => aslAbsX w | .lsrAcc => lsrAcc
  | .lsrZp b => lsrZp b | .lsrZpX b => lsrZpX b | .lsrAbs w => lsrAbs w | .lsrAbsX w => lsrAbsX w | .rolAcc => rolAcc
  | .rolZp b => rolZp b | .rolZpX b => rolZpX b | .rolAbs w => rolAbs w | .rolAbsX w => rolAbsX w | .rorAcc => rorAcc
  | .rorZp b => rorZp b | .rorZpX b => rorZpX b | .rorAbs w => rorAbs w | .rorAbsX w => rorAbsX w | .bpl d => bpl d
  | .bmi d => bmi d | .bvc d => bvc d | .bvs d => bvs d | .bcc d => bcc d | .bcs d => bcs d | .bne d => bne d
  | .beq d => beq d | .clc => clc | .sec => sec | .cli => cli | .sei => sei | .clv => clv | .cld => cld | .sed => sed
  | .nop => nop
end Sys2Proof.Laws.TableEntry

namespace Sys2Proof

/-! ### From the instruction to its bytes and back -/

/-- A well-formed instruction's opcode is dispatched to a format that builds the instruction (30_encoding.md R81). -/
theorem dispatch_opcode {set : InstructionSet} {i : Instr} (h : i.wf set = true) :
    ∃ format, dispatch set i.opcode = some format ∧ format.Builds i := by
  obtain ⟨format, hentry, hbuilds⟩ := Laws.TableEntry.statement i
  have hadmits : set.admits i.mnemonic.profile = true := h
  exact ⟨format, by simp [dispatch, hentry, hadmits], hbuilds⟩

/-- Bytes that begin with an opcode and the operand bytes of what its format builds decode to that instruction
(30_encoding.md R62). -/
theorem decode_of_builds {set : InstructionSet} {op : Byte} {format : Format} {i : Instr} (hd : dispatch set op = some format)
    (hbuilds : format.Builds i) (rest : List Byte) : decode set (op :: (i.mode.operandBytes ++ rest)) = .ok (i, rest) := by
  cases format with
  | f1 j =>
    obtain ⟨hbytes, rfl⟩ := hbuilds
    simp [decode, hd, hbytes]
  | f2 build =>
    obtain ⟨b, hbytes, rfl⟩ := hbuilds
    simp [decode, hd, hbytes]
  | f3 build =>
    obtain ⟨w, hbytes, rfl⟩ := hbuilds
    simp [decode, hd, hbytes]

/-! ### From bytes to the instruction and back -/

/-- The operand bytes that a format takes, of the byte and the word given. -/
def Format.operandBytes : Format → Byte → Addr → List Byte
  | .f1 _, _, _ => []
  | .f2 _, b, _ => [b]
  | .f3 _, _, w => [loByte w, hiByte w]

/-- Every entry of the opcode map keeps its operand: the instruction it makes has those operand bytes (30_encoding.md R64, R85). -/
theorem opcodeMap_make_operandBytes (b : Byte) (w : Addr) :
    opcodeMap.map (List.map (Option.map fun e => (e.format.make b w).mode.operandBytes)) =
      opcodeMap.map (List.map (Option.map fun e => e.format.operandBytes b w)) := by rfl

/-- The operand bytes of what an entry makes are those its format takes. -/
theorem make_operandBytes {op : Byte} {e : Entry} (he : opcodeEntry op = some e) (b : Byte) (w : Addr) :
    (e.format.make b w).mode.operandBytes = e.format.operandBytes b w := by
  have hmap : (opcodeEntry op).map (fun e => (e.format.make b w).mode.operandBytes) =
      (opcodeEntry op).map fun e => e.format.operandBytes b w := by
    rw [opcodeEntry_map, opcodeEntry_map, opcodeMap_make_operandBytes]
  rw [he] at hmap
  exact Option.some.inj hmap

/-- What decodes was dispatched to an entry that makes the decoded instruction, from the operand bytes after the opcode. -/
theorem decode_eq_make {set : InstructionSet} {bytes rest : List Byte} {i : Instr} (h : decode set bytes = .ok (i, rest)) :
    ∃ op e b w, opcodeEntry op = some e ∧ set.admits e.profile = true ∧ i = e.format.make b w ∧
      bytes = op :: (e.format.operandBytes b w ++ rest) := by
  obtain ⟨op, format, hd, hformat⟩ := decode_cases h
  obtain ⟨e, he, hadmits, rfl⟩ := dispatch_eq_some hd
  obtain ⟨hf, rfl⟩ | ⟨build, b, hf, rfl, rfl⟩ | ⟨build, l, hi, hf, rfl, rfl⟩ := hformat
  · exact ⟨op, e, 0x00, 0x0000, he, hadmits, by simp [hf, Format.make], by simp [hf, Format.operandBytes]⟩
  · exact ⟨op, e, b, 0x0000, he, hadmits, by simp [hf, Format.make], by simp [hf, Format.operandBytes]⟩
  · exact ⟨op, e, 0x00, joinBytes hi l, he, hadmits, by simp [hf, Format.make], by simp [hf, Format.operandBytes]⟩

/-- The profile of what an entry makes is the entry's own (30_encoding.md R81). -/
theorem make_profile {op : Byte} {e : Entry} (he : opcodeEntry op = some e) (b : Byte) (w : Addr) :
    (e.format.make b w).mnemonic.profile = e.profile := by
  obtain ⟨e', he', hprofile, -⟩ := opcodeEntry_opcode (e.format.make b w)
  rw [make_opcode he, he] at he'
  rw [← hprofile, Option.some.inj he']

/-- No instruction is longer than the three bytes that a step fetches (30_encoding.md R62). -/
theorem Instr.length_le_three (i : Instr) : i.length ≤ 3 := by
  rw [i.length_eq_modeLength]
  cases i.mode.name <;> decide

end Sys2Proof

namespace Sys2Proof.Machine

/-- The bytes a step fetches are the three from PC on, modulo 65536 (30_encoding.md R62). -/
theorem State.fetchBytes_getElem (s : State) {k : Nat} (hk : k < s.fetchBytes.length) :
    s.fetchBytes[k] = s.byteAt (s.pc + BitVec.ofNat 16 k) := by
  match k, hk with
  | 0, _ => exact congrArg s.byteAt (BitVec.add_zero s.pc).symm
  | 1, _ | 2, _ => rfl

/-- When an instruction's bytes stand at PC, the fetched bytes are its encoding and what follows it. -/
theorem State.fetchBytes_eq_encode_append {s : State} {i : Instr}
    (h : ∀ (k : Nat) (hk : k < (encode i).length), s.byteAt (s.pc + BitVec.ofNat 16 k) = (encode i)[k]) :
    ∃ rest, s.fetchBytes = encode i ++ rest := by
  have htake : s.fetchBytes.take (encode i).length = encode i := by
    refine List.ext_getElem ?length fun k _ hk => ?byte
    case length => exact (List.length_take ..).trans (Nat.min_eq_left i.length_le_three)
    case byte => rw [List.getElem_take, State.fetchBytes_getElem, h k hk]
  have hsplit := List.take_append_drop (encode i).length s.fetchBytes
  rw [htake] at hsplit
  exact ⟨_, hsplit.symm⟩

end Sys2Proof.Machine

open Sys2Proof Sys2Proof.Machine

/-- Settles O1: a well-formed instruction's opcode has the format that builds it from its operand bytes. -/
theorem decodeOfEncode : Obligations.DecodeOfEncode := by
  intro set i rest hwf
  obtain ⟨format, hd, hbuilds⟩ := dispatch_opcode hwf
  exact decode_of_builds hd hbuilds rest

/-- Settles O2: the entry that made the instruction fixes its opcode, its operand bytes and its profile. -/
theorem encodeOfDecode : Obligations.EncodeOfDecode := by
  intro set bytes rest i h
  obtain ⟨op, e, b, w, he, hadmits, rfl, rfl⟩ := decode_eq_make h
  refine ⟨?bytes, ?wellFormed⟩
  case bytes => rw [encode, make_opcode he, make_operandBytes he, List.cons_append]
  case wellFormed => rwa [Instr.wf, make_profile he]

/-- Settles O7: a decode without an error is the fetched instruction. -/
theorem stepRunsDecodedInstruction : Obligations.StepRunsDecodedInstruction := by
  intro s i rest hlatch hdecode
  exact step_of_fetched hlatch ((s.fetched_eq_some_iff i).2 ⟨rest, hdecode⟩)

/-- Settles O8: the fetched bytes are the instruction's encoding and what follows it, which decodes to the instruction. -/
theorem stepRunsEncodedInstruction : Obligations.StepRunsEncodedInstruction := by
  intro s i hlatch hwf hbytes
  obtain ⟨rest, hfetch⟩ := State.fetchBytes_eq_encode_append hbytes
  refine stepRunsDecodedInstruction s i rest hlatch ?_
  rw [hfetch]
  exact decodeOfEncode _ i rest hwf

end

section
/-! PROOF. What a step can answer and when, reset, and the invariant: from the three cases of a step (60_exceptions.md section 1;
70_reset_and_hazards.md R196; 10_state.md R41). -/

namespace Sys2Proof.Machine

/-! ### What a step answers -/

/-- An instruction was fetched only where the opcode byte has a handler (30_encoding.md R82). -/
theorem dispatch_ne_none_of_fetched {s : State} {i : Instr} (h : s.fetched = some i) :
    dispatch s.config.instructionSet (s.byteAt s.pc) ≠ none := by
  intro hnone
  obtain ⟨rest, hdecode⟩ := (s.fetched_eq_some_iff i).1 h
  have herror : decode s.config.instructionSet s.fetchBytes = .error (.noHandler (s.byteAt s.pc)) := decode_noHandler hnone
  cases herror.symm.trans hdecode

/-- A step that gives a state took a decode failure or ran the instruction at PC. -/
theorem step_next_cases {s t : State} (h : step s = .next t) :
    s.latched = false ∧
      (dispatch s.config.instructionSet (s.byteAt s.pc) = none ∧ t = s.takeDecodeFailure ∨
        ∃ i, s.fetched = some i ∧ exec i s = .next t) := by
  obtain ⟨-, hstep⟩ | ⟨hlatch, hnone, hstep⟩ | ⟨i, rest, hlatch, hdecode, hstep⟩ := step_cases s
  · cases hstep.symm.trans h
  · cases hstep.symm.trans h
    exact ⟨hlatch, .inl ⟨hnone, rfl⟩⟩
  · exact ⟨hlatch, .inr ⟨i, (s.fetched_eq_some_iff i).2 ⟨rest, hdecode⟩, hstep.symm.trans h⟩⟩

/-- A step reports its own decode failure and nothing else (10_state.md R42; 60_exceptions.md R170). -/
theorem step_reports {s t : State} (h : step s = .next t) :
    t.reports = s.reports ++
      (if (dispatch s.config.instructionSet (s.byteAt s.pc)).isNone then [⟨s.byteAt s.pc, s.pc⟩] else []) := by
  obtain ⟨-, ⟨hnone, rfl⟩ | ⟨i, hi, hexec⟩⟩ := step_next_cases h
  · simp [hnone]
  · obtain ⟨-, -, hreports, -⟩ := exec_engine hexec
    simp [hreports, Option.isNone_iff_eq_none, dispatch_ne_none_of_fetched hi]

/-- A step keeps the parameters and the call's budget (10_state.md R43, R44). -/
theorem step_config_budget {s t : State} (h : step s = .next t) : t.config = s.config ∧ t.budget = s.budget := by
  obtain ⟨-, ⟨-, rfl⟩ | ⟨i, -, hexec⟩⟩ := step_next_cases h
  · exact ⟨rfl, rfl⟩
  · obtain ⟨-, hbudget, -, hconfig⟩ := exec_engine hexec
    exact ⟨hconfig, hbudget⟩

/-- A step faults only with the latch set (10_state.md R41; 60_exceptions.md R174). -/
theorem step_fault_iff (s : State) (r : Fault) : step s = .fault r ↔ s.latched = true ∧ r = .halted := by
  constructor
  · intro h
    obtain ⟨hlatch, -⟩ | ⟨-, -, hstep⟩ | ⟨i, -, -, -, hstep⟩ := step_cases s
    · exact ⟨hlatch, by cases r; rfl⟩
    · cases hstep.symm.trans h
    · exact absurd (hstep.symm.trans h) (exec_ne_fault i s r)
  · rintro ⟨hlatch, rfl⟩
    exact step_of_latched hlatch

/-- A step is refused only at an ADC or SBC with D set under REFUSE (60_exceptions.md R172). -/
theorem step_refused_iff (s : State) (r : Refusal) :
    step s = .refused r ↔
      s.latched = false ∧ s.flag .d = true ∧ s.config.decimalMode = .refuse ∧
        (∃ i, s.fetched = some i ∧ i.mnemonic ∈ [Mnemonic.adc, .sbc]) ∧ r = .decimalArithmetic (s.byteAt s.pc) s.pc := by
  constructor
  · intro h
    obtain ⟨-, hstep⟩ | ⟨-, -, hstep⟩ | ⟨i, rest, hlatch, hdecode, hstep⟩ := step_cases s
    · cases hstep.symm.trans h
    · cases hstep.symm.trans h
    · have hi : s.fetched = some i := (s.fetched_eq_some_iff i).2 ⟨rest, hdecode⟩
      obtain ⟨hdecimal, hm, rfl⟩ := (exec_refused_iff i s r).1 (hstep.symm.trans h)
      obtain ⟨hd, hrefuse⟩ := (refusesDecimal_iff s).1 hdecimal
      exact ⟨hlatch, hd, hrefuse, ⟨i, hi, hm⟩, by rw [State.fetched_opcode hi]⟩
  · rintro ⟨hlatch, hd, hrefuse, ⟨i, hi, hm⟩, rfl⟩
    exact step_refused_of_decimal hlatch hi hm hd hrefuse

/-! ### The invariant -/

/-- The reset state meets the invariant, with any parameters (70_reset_and_hazards.md R196). -/
theorem State.resetWith_inv (c : Config) : (State.resetWith c).Inv where
  memory := Memory.nil_wf
  latch := fun h => nomatch h

/-- A decode failure keeps the invariant: it sets the latch only under HALT (60_exceptions.md R171). -/
theorem State.Inv.takeDecodeFailure {s : State} (h : s.Inv) : s.takeDecodeFailure.Inv where
  memory := h.memory
  latch := by
    intro hhalted
    rw [State.takeDecodeFailure_halted] at hhalted
    split at hhalted
    · assumption
    · exact h.latch hhalted

/-- An instruction keeps the invariant: it writes memory in canonical form and leaves the latch and the policy alone. -/
theorem State.Inv.exec {s t : State} {i : Instr} (h : s.Inv) (hexec : exec i s = .next t) : t.Inv := by
  obtain ⟨hhalted, -, -, hconfig⟩ := exec_engine hexec
  refine ⟨exec_mem_wf hexec h.memory, fun ht => ?latch⟩
  case latch =>
    rw [hhalted] at ht
    rw [hconfig]
    exact h.latch ht

end Sys2Proof.Machine

open Sys2Proof Sys2Proof.Machine

/-- Settles O13: the two ways a step gives a state, a decode failure and an instruction, each keep the invariant. -/
theorem stepKeepsInvariant : Obligations.StepKeepsInvariant := by
  intro s t hinv h
  obtain ⟨-, ⟨-, rfl⟩ | ⟨i, -, hexec⟩⟩ := step_next_cases h
  · exact hinv.takeDecodeFailure
  · exact hinv.exec hexec

/-- Settles O12: memory is empty and the latch clear in every reset state. -/
theorem invariantHoldsAtReset : Obligations.InvariantHoldsAtReset :=
  ⟨State.resetWith_inv _, State.resetWith_inv, fun s => State.resetWith_inv s.config⟩

/-- Settles O20: the reset state takes nothing but the parameters from the state before it. -/
theorem resetWritesWholeState : Obligations.ResetWritesWholeState := by
  refine ⟨fun s => ⟨⟨rfl, rfl, rfl, rfl, rfl⟩, rfl, fun f => ?flags, fun k => ?memory, rfl, rfl, rfl, rfl⟩, rfl, rfl⟩
  case flags => exact BitVec.getLsbD_zero
  case memory => exact Memory.read_nil k.toNat

/-- Settles O11: the reports, refusals and faults of the three cases of a step. -/
theorem abnormalStepsAreComplete : Obligations.AbnormalStepsAreComplete := by
  intro s
  refine ⟨⟨?reports, ?noHandler⟩, fun t h => ?atMostOne, step_refused_iff s, step_fault_iff s⟩
  case reports =>
    rintro ⟨t, h, hreports⟩
    obtain ⟨hlatch, ⟨hnone, -⟩ | ⟨i, -, hexec⟩⟩ := step_next_cases h
    · exact ⟨hlatch, hnone⟩
    · obtain ⟨-, -, hkept, -⟩ := exec_engine hexec
      simp [hkept] at hreports
  case noHandler =>
    rintro ⟨hlatch, hnone⟩
    exact ⟨_, step_of_noHandler hlatch hnone, rfl⟩
  case atMostOne =>
    rw [step_reports h]
    split
    · exact .inr rfl
    · exact .inl (List.append_nil _)

end

section
/-! PROOF. The stack round trips: what was pushed is pulled back and SP is as before (20_memory.md R55; 43_control.md R123;
41_transfer_stack.md R113, R115). -/

namespace Sys2Proof.Machine

/-- SP is back after a push and a pull of one byte (20_memory.md R52, R53). -/
theorem sub_one_add_one (sp : Byte) : sp - 1 + 1 = sp := BitVec.sub_add_cancel sp 1

/-- A 16-bit pull in any state whose SP and two stack bytes are those that a 16-bit push left gives the word and restores SP
(20_memory.md R55). -/
theorem State.pull16_of_push16 {s u : State} {w : Addr} (hsp : u.sp = (s.push16 w).sp)
    (hbytes : ∀ n ∈ [s.sp, s.sp - 1], u.byteAt (stackAddr n) = (s.push16 w).byteAt (stackAddr n)) :
    u.pull16.1 = w ∧ u.pull16.2.sp = s.sp := by
  have hlow : u.sp + 1 = s.sp - 1 := by rw [hsp, State.push16_sp, sub_one_add_one]
  have hhigh : u.sp + 1 + 1 = s.sp := by rw [hlow, sub_one_add_one]
  refine ⟨?word, hhigh⟩
  case word =>
    rw [State.pull16_value, hhigh, hlow, hbytes s.sp (by simp), hbytes (s.sp - 1) (by simp), State.push16_byteAt_high,
      State.push16_byteAt_low, joinBytes_hiByte_loByte]

end Sys2Proof.Machine

open Sys2Proof Sys2Proof.Machine

/-- Settles O25: the pull right after the push finds SP and both bytes as the push left them. -/
theorem pull16OfPush16 : Obligations.Pull16OfPush16 :=
  fun _ _ => State.pull16_of_push16 rfl fun _ _ => rfl

/-- Settles O26: JSR pushes the address of its last byte, and RTS pulls a word and continues at the address after it. -/
theorem jsrRtsRoundTrip : Obligations.JsrRtsRoundTrip := by
  intro s w
  have hjsr := exec_jsr w s
  have hbyte := callSubroutine_byteAt (callSubroutine_eq (Instr.jsr w).opcode w s)
  rw [callSubroutine_eq] at hjsr
  refine ⟨_, hjsr, fun u hsp hbytes => ?_⟩
  obtain ⟨hword, hrestored⟩ := State.pull16_of_push16 (s := s) (u := u) (w := s.pc + 2)
    (by simpa using hsp)
    (fun n hn => (hbytes n hn).trans (hbyte (stackAddr n)))
  have hrts := exec_rts (i := .rts) u rfl
  rw [returnFromSubroutine_eq] at hrts
  refine ⟨_, hrts, ?pc, hrestored⟩
  case pc =>
    rw [State.charge_pc, State.setPc_pc, hword]
    bv_omega

/-- Settles O27: PLP pulls the byte that PHP pushed, the status byte as stored. -/
theorem phpPlpRoundTrip : Obligations.PhpPlpRoundTrip := by
  intro s
  have hphp := exec_php (i := .php) s rfl
  rw [pushByte_eq] at hphp
  refine ⟨_, hphp, fun u hsp hbyte => ?_⟩
  have hrestored : u.sp + 1 = s.sp := by
    rw [hsp]
    exact sub_one_add_one s.sp
  have hpushed : u.byteAt (stackAddr s.sp) = s.p := by simpa using hbyte
  have hplp := exec_plp (i := .plp) u rfl
  rw [pullInto_eq, hrestored, hpushed] at hplp
  exact ⟨_, hplp, rfl, rfl⟩

end

section
/-! PROOF. What the results and flags of ADC and SBC mean as numbers: signed overflow as a range, and SBC as a subtraction with
borrow (44_arith_compare.md R124, R125). -/

namespace Sys2Proof.Machine

/-- Bit 7 is the sign of a byte (00_scope.md R8). -/
theorem getLsbD_seven (b : Byte) : b.getLsbD 7 = decide (b.toInt < 0) := by
  rw [← BitVec.msb_eq_toInt]
  rfl

/-- The operands have one sign and the result the other exactly when the signed sum leaves the signed range
(44_arith_compare.md R124). -/
theorem addWithCarry_overflow_iff (a v : Byte) (c : Bool) :
    (addWithCarry a v c).overflow = true ↔
      a.toInt + v.toInt + bitValue c < -128 ∨ 127 < a.toInt + v.toInt + bitValue c := by
  generalize hr : (addWithCarry a v c).value = r
  have hoverflow : (addWithCarry a v c).overflow = ((a ^^^ r) &&& (v ^^^ r)).getLsbD 7 := by rw [← hr]; rfl
  have hvalue : r.toNat = (a.toNat + v.toNat + bitValue c) % 256 := by rw [← hr, addWithCarry_value_toNat]
  have hc : bitValue c ≤ 1 := by cases c <;> decide
  have ha := a.isLt
  have hv := v.isLt
  rw [hoverflow, BitVec.getLsbD_and, BitVec.getLsbD_xor, BitVec.getLsbD_xor, getLsbD_seven, getLsbD_seven, getLsbD_seven]
  simp only [BitVec.toInt_eq_toNat_cond, Bool.and_eq_true, bne_iff_ne, ne_eq, decide_eq_decide]
  omega

/-- The complement of a byte in two's complement (44_arith_compare.md R125). -/
theorem complement_toInt (v : Byte) : (~~~v).toInt = -1 - v.toInt := by
  have hv := v.isLt
  simp only [BitVec.toInt_eq_toNat_cond, BitVec.toNat_not]
  omega

end Sys2Proof.Machine

open Sys2Proof Sys2Proof.Machine

/-- Settles O46: ADC's overflow is the signed sum out of range, and SBC adds the complement, which as a number is 255 - v unsigned
and -1 - v signed. -/
theorem arithmeticFlagsMeanOverflow : Obligations.ArithmeticFlagsMeanOverflow := by
  intro a v c sum difference
  have hcomplement : (~~~v).toNat = 255 - v.toNat := BitVec.toNat_not
  have hv : v.toNat < 256 := v.isLt
  have hc : bitValue c ≤ 1 := by cases c <;> decide
  refine ⟨addWithCarry_overflow_iff a v c, ?value, ?carry, ?overflow⟩
  case value =>
    rw [subtractWithBorrow, addWithCarry_value_toNat, hcomplement]
    omega
  case carry =>
    have hcarry : (subtractWithBorrow a v c).carry = decide (0xFF < a.toNat + (~~~v).toNat + bitValue c) := rfl
    rw [hcarry, decide_eq_true_iff, hcomplement]
    omega
  case overflow =>
    have hdifference : a.toInt + (~~~v).toInt + bitValue c = difference := by
      rw [complement_toInt]
      omega
    rw [subtractWithBorrow, addWithCarry_overflow_iff, hdifference]

end

section
/-! PROOF. The default cycle table, row by row of the opcode map (70_reset_and_hazards.md R204, R205). -/

namespace Sys2Proof.Machine

/-- The default table has, at every place of the opcode map, the base cost and the class of the row that stands there
(70_reset_and_hazards.md R204, R205). -/
theorem cycleRow_default_of_entry : ∀ op : Byte, ∀ e ∈ opcodeEntry op,
    baseCost Config.default op = specBaseCost e.row.1 e.row.2 ∧
      penaltyClass Config.default op = specPenalty e.row.1 e.row.2 := by decide +kernel

end Sys2Proof.Machine

open Sys2Proof Sys2Proof.Machine

/-- Settles O55: an instruction's opcode is the place of its row in the opcode map, where the tables agree. -/
theorem defaultCycleTable : Obligations.DefaultCycleTable := by
  intro c i hdefault
  obtain ⟨e, he, -, hrow⟩ := opcodeEntry_opcode i
  rw [baseCost_default hdefault, penaltyClass_default hdefault]
  have hentry := cycleRow_default_of_entry i.opcode e he
  rwa [hrow] at hentry

end

section
/-! PROOF. Every meaning in one equation: what a mnemonic does with its operand, and what the step costs beside the opcode's base
(30_encoding.md R66, R78, R82; 70_reset_and_hazards.md R203, R204). -/

namespace Sys2Proof.Machine

/-! ### One equation for all meanings -/

/-- The value of the operand a mode names: the byte of a source (30_encoding.md R78), or A (R79). A mode without a value gives
0. -/
def modeValue (mode : AddrMode) (s : State) : Byte :=
  match mode with
  | .source src => operand s src
  | .accumulator => s.a
  | .implied | .relative _ => 0x00

/-- The address a mode names: the effective address, or a branch's target (30_encoding.md R66, R80). A mode without one gives 0. -/
def modeAddress (mode : AddrMode) (s : State) : Addr :=
  match mode with
  | .source (.memory m) => (resolve s m).ea
  | .relative d => s.pc + signExtend16 d
  | .implied | .accumulator | .source (.immediate _) => 0x0000

/-- A shift or rotate puts its result where its operand was, in A or in memory (45_incdec_shift.md R135 to R138). -/
def State.putShift (s : State) (inA : Bool) (ea : Addr) (r : Byte × Bool) : State :=
  ((if inA then (s.setFlag .c r.2).setA r.1 else (s.setFlag .c r.2).setByte ea r.1)).setZN r.1

/-- What a mnemonic does in a state whose PC is past the instruction, with its operand's value v, the address ea, and whether the
operand is A (`exec_eq`). -/
def act (m : Mnemonic) (v : Byte) (ea : Addr) (inA : Bool) (s : State) : State :=
  match m with
  | .lda => (s.setA v).setZN v
  | .ldx => (s.setX v).setZN v
  | .ldy => (s.setY v).setZN v
  | .sta => s.setByte ea s.a
  | .stx => s.setByte ea s.x
  | .sty => s.setByte ea s.y
  | .tax => (s.setX s.a).setZN s.a
  | .tay => (s.setY s.a).setZN s.a
  | .txa => (s.setA s.x).setZN s.x
  | .tya => (s.setA s.y).setZN s.y
  | .tsx => (s.setX s.sp).setZN s.sp
  | .txs => s.setSp s.x
  | .pha => s.push s.a
  | .php => s.push s.p
  | .pla => (s.pull.2.setA s.pull.1).setZN s.pull.1
  | .plp => s.pull.2.setP s.pull.1
  | .and => s.combineA (· &&& ·) v
  | .eor => s.combineA (· ^^^ ·) v
  | .ora => s.combineA (· ||| ·) v
  | .bit => s.setBitTest v
  | .jmp => s.setPc ea
  | .jsr => (s.push16 (s.pc - 1)).setPc ea
  | .rts => s.pull16.2.setPc (s.pull16.1 + 1)
  | .adc => s.putSum (addWithCarry s.a v (s.flag .c))
  | .sbc => s.putSum (subtractWithBorrow s.a v (s.flag .c))
  | .cmp => s.setCompare s.a v
  | .cpx => s.setCompare s.x v
  | .cpy => s.setCompare s.y v
  | .inc => (s.setByte ea (v + 1)).setZN (v + 1)
  | .dec => (s.setByte ea (v - 1)).setZN (v - 1)
  | .inx => (s.setX (s.x + 1)).setZN (s.x + 1)
  | .iny => (s.setY (s.y + 1)).setZN (s.y + 1)
  | .dex => (s.setX (s.x - 1)).setZN (s.x - 1)
  | .dey => (s.setY (s.y - 1)).setZN (s.y - 1)
  | .asl => s.putShift inA ea (asl v (s.flag .c))
  | .lsr => s.putShift inA ea (lsr v (s.flag .c))
  | .rol => s.putShift inA ea (rol v (s.flag .c))
  | .ror => s.putShift inA ea (ror v (s.flag .c))
  | .bpl | .bmi | .bvc | .bvs | .bcc | .bcs | .bne | .beq => s.setPc (if branchTaken m s then ea else s.pc)
  | .clc => s.setFlag .c false
  | .sec => s.setFlag .c true
  | .cli => s.setFlag .i false
  | .sei => s.setFlag .i true
  | .clv => s.setFlag .v false
  | .cld => s.setFlag .d false
  | .sed => s.setFlag .d true
  | .nop => s

/-- What the instruction does in a state whose PC is past it. -/
def execEffect (i : Instr) (s : State) : State :=
  act i.mnemonic (modeValue i.mode s) (modeAddress i.mode s) (i.mode == .accumulator) s

/-- Whether the instruction is refused: ADC and SBC with D set under REFUSE (60_exceptions.md R172). -/
def execRefuses (i : Instr) (s : State) : Bool :=
  match i.mnemonic with
  | .adc | .sbc => s.refusesDecimal
  | _ => false

/-- What the instruction costs beside its opcode's base (70_reset_and_hazards.md R203, R204). -/
def execPenalty (i : Instr) (s : State) : Nat :=
  match specPenalty i.mnemonic i.mode.name, i.mode with
  | .page, .source src => pagePenalty s.config i.opcode (operandCrossed s src)
  | .branch, .relative d =>
    if branchTaken i.mnemonic s then
      branchPenalty s.config i.opcode (hiByte (s.pc + 2 + signExtend16 d) != hiByte (s.pc + 2))
    else 0
  | _, _ => 0

/-- Taken or not, a branch is one write of PC, and a penalty when it is taken (46_branch_flag.md R139). -/
theorem branch_eq (op : Byte) (cond : Bool) (d : Byte) (s : State) :
    branch op cond d s =
      finish op (if cond then branchPenalty s.config op (hiByte (s.pc + 2 + signExtend16 d) != hiByte (s.pc + 2)) else 0)
        ((s.advance 2).setPc (if cond then s.pc + 2 + signExtend16 d else s.pc + 2)) := by
  cases cond <;> rfl

/-- Every instruction's meaning: refused, or its mnemonic's effect with PC past the instruction, at the base cost and the
penalty. -/
theorem exec_eq (i : Instr) (s : State) :
    exec i s =
      if execRefuses i s then .refused (.decimalArithmetic i.opcode s.pc)
      else finish i.opcode (execPenalty i s) (execEffect i (s.advance i.length)) := by
  cases i with
  | bpl | bmi | bvc | bvs | bcc | bcs | bne | beq => exact branch_eq ..
  | _ => rfl

end Sys2Proof.Machine
end

section
/-! PROOF. What an instruction writes: the flags, the registers and memory, from what its mnemonic does with its operand
(10_state.md R21 to R35; 20_memory.md R49, R60). -/

namespace Sys2Proof.Machine

/-! ### The state that an instruction gives -/

theorem act_config (m : Mnemonic) (v : Byte) (ea : Addr) (inA : Bool) (s : State) : (act m v ea inA s).config = s.config := by
  cases m with
  | asl | lsr | rol | ror => cases inA <;> rfl
  | _ => rfl

/-- An instruction that is not refused leaves its effect, with PC past it, and charges its base cost and penalty. -/
theorem exec_of_not_refused {i : Instr} {s : State} (h : execRefuses i s = false) :
    exec i s =
      .next ((execEffect i (s.advance i.length)).charge (baseCost s.config i.opcode + execPenalty i s)) := by
  rw [exec_eq, h, if_neg Bool.false_ne_true, finish_eq, execEffect, act_config, State.advance_config]

theorem execRefuses_of_next {i : Instr} {s t : State} (h : exec i s = .next t) : execRefuses i s = false := by
  rw [← Bool.not_eq_true]
  intro hrefuses
  rw [exec_eq, if_pos hrefuses] at h
  cases h

theorem exec_next_eq {i : Instr} {s t : State} (h : exec i s = .next t) :
    t = (execEffect i (s.advance i.length)).charge (baseCost s.config i.opcode + execPenalty i s) := by
  rw [exec_of_not_refused (execRefuses_of_next h)] at h
  cases h
  rfl

/-! ### Flags -/

/-- The flags that each mnemonic writes: the lists of `flagWriters`, read by mnemonic (`mem_flagWriters`). -/
def flagsWritten : Mnemonic → List Flag
  | .lda | .ldx | .ldy | .tax | .tay | .txa | .tya | .tsx | .pla | .and | .eor | .ora | .inc | .dec | .inx | .iny | .dex
  | .dey => [.z, .n]
  | .cmp | .cpx | .cpy | .asl | .lsr | .rol | .ror => [.c, .z, .n]
  | .adc | .sbc => [.c, .v, .z, .n]
  | .bit => [.z, .v, .n]
  | .plp => [.c, .z, .i, .d, .b, .u, .v, .n]
  | .clc | .sec => [.c]
  | .cli | .sei => [.i]
  | .cld | .sed => [.d]
  | .clv => [.v]
  | .sta | .stx | .sty | .txs | .pha | .php | .jmp | .jsr | .rts | .bpl | .bmi | .bvc | .bvs | .bcc | .bcs | .bne | .beq
  | .nop => []

theorem mem_flagWriters (m : Mnemonic) (f : Flag) : m ∈ flagWriters f ↔ f ∈ flagsWritten m := by
  cases f <;> cases m <;> decide

/-- A shift writes C, Z and N, wherever it puts its result (45_incdec_shift.md R135 to R138). -/
theorem State.putShift_flagsKept (s : State) (inA : Bool) (ea : Addr) (r : Byte × Bool) :
    FlagsKept [.c, .z, .n] s (s.putShift inA ea r) := by
  have hp : (s.putShift inA ea r).p = ((s.setFlag .c r.2).setZN r.1).p := by cases inA <;> rfl
  obtain ⟨-, -, hkept⟩ := carry_znOf_and_flagsKept_of_p hp
  exact hkept

/-- ADC and SBC write C, V, Z and N (44_arith_compare.md R124). -/
theorem State.putSum_flagsKept (s : State) (r : Sum) : FlagsKept [.c, .v, .z, .n] s (s.putSum r) := by
  obtain ⟨-, hkeptZN⟩ := znOf_and_flagsKept_of_p (s := (s.setFlag .c r.carry).setFlag .v r.overflow)
    (t := s.putSum r) (v := r.value) rfl
  obtain ⟨-, hkeptV⟩ := flag_and_flagsKept_of_setFlag (by decide) hkeptZN
  obtain ⟨-, hkept⟩ := flag_and_flagsKept_of_setFlag (by decide) hkeptV
  exact hkept

theorem State.setFlag_flagsKept (s : State) (f : Flag) (b : Bool) : FlagsKept [f] s (s.setFlag f b) := by
  obtain ⟨-, hkept⟩ := flag_and_flagsKept_of_setFlag (s := s) (f := f) (b := b) List.not_mem_nil fun _ _ => rfl
  exact hkept

/-- A mnemonic writes no flag but its own (10_state.md R28 to R35). -/
theorem act_flagsKept (m : Mnemonic) (v : Byte) (ea : Addr) (inA : Bool) (s : State) :
    FlagsKept (flagsWritten m) s (act m v ea inA s) := by
  cases m with
  | lda | ldx | ldy | tax | tay | txa | tya | tsx | pla | and | eor | ora | inc | dec | inx | iny | dex | dey =>
    obtain ⟨-, hkept⟩ := znOf_and_flagsKept_of_p (s := s) rfl
    exact hkept
  | cmp | cpx | cpy =>
    obtain ⟨-, -, hkept⟩ := compare_flags_of_p (s := s) rfl
    exact hkept
  | bit =>
    obtain ⟨-, -, -, hkept⟩ := bitTest_flags_of_p (s := s) (v := v) rfl
    exact hkept
  | adc | sbc => exact s.putSum_flagsKept _
  | asl | lsr | rol | ror => exact s.putShift_flagsKept inA ea _
  | clc | sec | cli | sei | clv | cld | sed => exact s.setFlag_flagsKept _ _
  | plp => exact fun f hf => absurd (by cases f <;> decide) hf
  | _ => exact fun _ _ => rfl

/-! ### Registers -/

/-- The mnemonics that write A in every form (10_state.md R21). -/
def aWriters : List Mnemonic := [.lda, .txa, .tya, .pla, .and, .eor, .ora, .adc, .sbc]

/-- The shifts and rotates (45_incdec_shift.md R135 to R138). -/
def shiftMnemonics : List Mnemonic := [.asl, .lsr, .rol, .ror]

theorem act_a {m : Mnemonic} {inA : Bool} (hm : m ∉ aWriters) (hshift : m ∈ shiftMnemonics → inA = false) (v : Byte)
    (ea : Addr) (s : State) : (act m v ea inA s).a = s.a := by
  cases m with
  | lda | txa | tya | pla | and | eor | ora | adc | sbc => exact absurd (by decide) hm
  | asl | lsr | rol | ror => rw [hshift (by decide)]; rfl
  | _ => rfl

theorem act_x {m : Mnemonic} (hm : m ∉ [Mnemonic.ldx, .tax, .tsx, .inx, .dex]) (v : Byte) (ea : Addr) (inA : Bool) (s : State) :
    (act m v ea inA s).x = s.x := by
  cases m with
  | ldx | tax | tsx | inx | dex => exact absurd (by decide) hm
  | asl | lsr | rol | ror => cases inA <;> rfl
  | _ => rfl

theorem act_y {m : Mnemonic} (hm : m ∉ [Mnemonic.ldy, .tay, .iny, .dey]) (v : Byte) (ea : Addr) (inA : Bool) (s : State) :
    (act m v ea inA s).y = s.y := by
  cases m with
  | ldy | tay | iny | dey => exact absurd (by decide) hm
  | asl | lsr | rol | ror => cases inA <;> rfl
  | _ => rfl

theorem act_sp {m : Mnemonic} (hm : m ∉ [Mnemonic.txs, .pha, .php, .pla, .plp, .jsr, .rts]) (v : Byte) (ea : Addr) (inA : Bool)
    (s : State) : (act m v ea inA s).sp = s.sp := by
  cases m with
  | txs | pha | php | pla | plp | jsr | rts => exact absurd (by decide) hm
  | asl | lsr | rol | ror => cases inA <;> rfl
  | _ => rfl

theorem act_pc {m : Mnemonic} (hm : m ∉ [Mnemonic.jmp, .jsr, .rts] ++ branchMnemonics) (v : Byte) (ea : Addr) (inA : Bool)
    (s : State) : (act m v ea inA s).pc = s.pc := by
  cases m with
  | jmp | jsr | rts | bpl | bmi | bvc | bvs | bcc | bcs | bne | beq => exact absurd (by decide) hm
  | asl | lsr | rol | ror => cases inA <;> rfl
  | _ => rfl

/-! ### Memory -/

/-- The mnemonics that write memory in every form (20_memory.md R49). -/
def memWriters : List Mnemonic := [.sta, .stx, .sty, .pha, .php, .jsr, .inc, .dec]

theorem act_mem {m : Mnemonic} {inA : Bool} (hm : m ∉ memWriters) (hshift : m ∈ shiftMnemonics → inA = true) (v : Byte)
    (ea : Addr) (s : State) : (act m v ea inA s).mem = s.mem := by
  cases m with
  | sta | stx | sty | pha | php | jsr | inc | dec => exact absurd (by decide) hm
  | asl | lsr | rol | ror => rw [hshift (by decide)]; rfl
  | _ => rfl

end Sys2Proof.Machine

open Sys2Proof Sys2Proof.Machine

/-- Settles O17: a mnemonic's effect keeps the flags that are not its own. -/
theorem flagsHaveOnlyTheirWriters : Obligations.FlagsHaveOnlyTheirWriters := by
  intro i s t f h hne
  rw [mem_flagWriters]
  by_contra hf
  rw [exec_next_eq h] at hne
  exact hne (act_flagsKept i.mnemonic _ _ _ _ f hf)

/-- Settles O18: a register that the mnemonic's effect does not write is as before, and PC is where the fetch left it. -/
theorem registersHaveOnlyTheirWriters : Obligations.RegistersHaveOnlyTheirWriters := by
  intro i s t h
  obtain rfl := exec_next_eq h
  refine ⟨fun hne => ?a, fun hne => ?x, fun hne => ?y, fun hne => ?sp, fun hne => ?pc⟩
  case a =>
    by_contra hm
    obtain ⟨hm, hshift⟩ := not_or.1 hm
    exact hne (act_a hm (fun hs => beq_false_of_ne fun hmode => hshift ⟨hs, hmode⟩) _ _ _)
  case x => exact by_contra fun hm => hne (act_x hm _ _ _ _)
  case y => exact by_contra fun hm => hne (act_y hm _ _ _ _)
  case sp => exact by_contra fun hm => hne (act_sp hm _ _ _ _)
  case pc => exact by_contra fun hm => hne (act_pc hm _ _ _ _)

/-- Settles O19: the memory that the mnemonic's effect does not write is as before, and a shift of A does not write it. -/
theorem memoryHasOnlyItsWriters : Obligations.MemoryHasOnlyItsWriters := by
  intro i s t k h hne
  by_contra hm
  obtain ⟨hm, hshift⟩ := not_or.1 hm
  have hinA : i.mnemonic ∈ shiftMnemonics → (i.mode == .accumulator) = true :=
    fun hs => beq_iff_eq.2 (by_contra fun hmode => hshift ⟨hs, hmode⟩)
  rw [exec_next_eq h] at hne
  exact hne (congrArg (Memory.read · k.toNat) (act_mem hm hinA _ _ _))

end

section
/-! PROOF. What a step costs: the base cost and the penalty of R204 at the least and at the most (70_reset_and_hazards.md R203 to
R205). -/

namespace Sys2Proof.Machine

/-- The most that a penalty class can add to a base cost (70_reset_and_hazards.md R203). -/
def maxPenalty : PenaltyClass → Nat
  | .fixed => 0
  | .page => 1
  | .branch => 2

theorem pagePenalty_le (c : Config) (op : Byte) (crossed : Bool) :
    pagePenalty c op crossed ≤ maxPenalty (penaltyClass c op) := by
  cases hclass : penaltyClass c op <;> cases crossed <;> simp [pagePenalty, hclass, maxPenalty]

theorem branchPenalty_le (c : Config) (op : Byte) (otherPage : Bool) :
    branchPenalty c op otherPage ≤ maxPenalty (penaltyClass c op) := by
  cases hclass : penaltyClass c op <;> cases otherPage <;> simp [branchPenalty, hclass, maxPenalty]

/-- An instruction's penalty is at most what its opcode's class in the table allows (70_reset_and_hazards.md R204). -/
theorem execPenalty_le (i : Instr) (s : State) : execPenalty i s ≤ maxPenalty (penaltyClass s.config i.opcode) := by
  unfold execPenalty
  split
  · exact pagePenalty_le ..
  · split
    · exact branchPenalty_le ..
    · exact Nat.zero_le _
  · exact Nat.zero_le _

theorem execPenalty_of_fixed {i : Instr} (s : State) (hspec : specPenalty i.mnemonic i.mode.name = .fixed) :
    execPenalty i s = 0 := by
  rw [execPenalty, hspec]

theorem execPenalty_of_page {i : Instr} {src : Source} (s : State) (hspec : specPenalty i.mnemonic i.mode.name = .page)
    (hmode : i.mode = .source src) : execPenalty i s = pagePenalty s.config i.opcode (operandCrossed s src) := by
  rw [execPenalty, hspec, hmode]

theorem execPenalty_of_branch {i : Instr} {d : Byte} (s : State) (hspec : specPenalty i.mnemonic i.mode.name = .branch)
    (hmode : i.mode = .relative d) :
    execPenalty i s =
      if branchTaken i.mnemonic s then
        branchPenalty s.config i.opcode (hiByte (s.pc + 2 + signExtend16 d) != hiByte (s.pc + 2))
      else 0 := by
  rw [execPenalty, hspec, hmode]

/-- Under the default table no opcode's base cost and penalty exceed 7 (70_reset_and_hazards.md R205). -/
theorem baseCost_add_maxPenalty_le : ∀ op : Byte,
    baseCost Config.default op + maxPenalty (penaltyClass Config.default op) ≤ 7 := by decide +kernel

/-! ### The call's own fields -/

/-- The state with the fields that no instruction reads replaced: the call's own and the cycle table (10_state.md R42 to R44;
70_reset_and_hazards.md R213). -/
def State.withEngine (s : State) (budget consumed : Nat) (reports : List DecodeFailure) (overrides : List CycleRow) : State :=
  { s with
    budget := budget
    consumed := consumed
    reports := reports
    config := { s.config with cycleOverrides := overrides } }

/-- A mnemonic's effect neither reads nor writes the call's own fields and the cycle table. -/
theorem act_withEngine (m : Mnemonic) (v : Byte) (ea : Addr) (inA : Bool) (s : State) (budget consumed : Nat)
    (reports : List DecodeFailure) (overrides : List CycleRow) :
    act m v ea inA (s.withEngine budget consumed reports overrides) =
      (act m v ea inA s).withEngine budget consumed reports overrides := by
  cases m with
  | asl | lsr | rol | ror => cases inA <;> rfl
  | _ => rfl

theorem act_consumed (m : Mnemonic) (v : Byte) (ea : Addr) (inA : Bool) (s : State) :
    (act m v ea inA s).consumed = s.consumed := by
  have hself := act_withEngine m v ea inA s s.budget s.consumed s.reports s.config.cycleOverrides
  exact congrArg (fun t => t.consumed) hself

/-- What an instruction costs: its opcode's base and its penalty (70_reset_and_hazards.md R203). -/
theorem exec_consumed {i : Instr} {s t : State} (h : exec i s = .next t) :
    t.consumed = s.consumed + baseCost s.config i.opcode + execPenalty i s := by
  rw [exec_next_eq h, State.charge_consumed, execEffect, act_consumed, State.advance_consumed, Nat.add_assoc]

theorem step_consumed_le {s t : State} (h : step s = .next t) (hdefault : s.config.cycleOverrides = []) :
    t.consumed ≤ s.consumed + 7 := by
  obtain ⟨-, ⟨-, rfl⟩ | ⟨i, -, hexec⟩⟩ := step_next_cases h
  · rw [State.takeDecodeFailure_consumed]
    omega
  · have hpenalty := execPenalty_le i s
    have hmost := baseCost_add_maxPenalty_le i.opcode
    rw [exec_consumed hexec, baseCost_default hdefault]
    rw [penaltyClass_default hdefault] at hpenalty
    omega

/-- Every step costs at least one cycle (70_reset_and_hazards.md R202). -/
theorem lt_step_consumed {s t : State} (h : step s = .next t) : s.consumed < t.consumed := by
  obtain ⟨-, ⟨-, rfl⟩ | ⟨i, -, hexec⟩⟩ := step_next_cases h
  · exact Nat.lt_succ_self _
  · have hbase := baseCost_pos s.config i.opcode
    rw [exec_consumed hexec]
    omega

end Sys2Proof.Machine

open Sys2Proof Sys2Proof.Machine

/-- Settles O56: the penalty is read off the class of R204, a page cross for `page` and a taken branch for `branch`. -/
theorem stepCosts : Obligations.StepCosts := by
  intro s
  refine ⟨fun t hnone h => ?failure, fun i t h hclass => ?instruction⟩
  case failure =>
    obtain ⟨-, ⟨-, rfl⟩ | ⟨i, hi, -⟩⟩ := step_next_cases h
    · rfl
    · exact absurd hnone (dispatch_ne_none_of_fetched hi)
  case instruction =>
    rw [exec_consumed h]
    cases hspec : specPenalty i.mnemonic i.mode.name with
    | fixed => exact congrArg _ (execPenalty_of_fixed s hspec)
    | page =>
      intro mode hmode
      rw [execPenalty_of_page s hspec hmode, pagePenalty_of_page (hclass.trans hspec)]
      rfl
    | branch =>
      intro d hmode target
      rw [execPenalty_of_branch s hspec hmode, branchPenalty_of_branch (hclass.trans hspec)]
      cases branchTaken i.mnemonic s with
      | false => rfl
      | true => simp [target]

/-- Settles O14: each of the two ways a step gives a state charges at least one cycle, at most 7 of them by the default table. -/
theorem stepKeepsEngineState : Obligations.StepKeepsEngineState := by
  intro s t h
  obtain ⟨hconfig, hbudget⟩ := step_config_budget h
  exact ⟨hconfig, hbudget, lt_step_consumed h, step_consumed_le h, step_reports h⟩

end

section
/-! PROOF. No step reads the call's own fields or the cycle table: a step from a state with others gives the same state but for them
(10_state.md R42, R43; 70_reset_and_hazards.md R213). -/

namespace Sys2Proof.Machine

/-! ### The instruction -/

section
variable (s : State) (budget consumed : Nat) (reports : List DecodeFailure) (overrides : List CycleRow)

theorem resolve_withEngine (m : MemMode) : resolve (s.withEngine budget consumed reports overrides) m = resolve s m := by
  cases m <;> rfl

theorem modeValue_withEngine (mode : AddrMode) :
    modeValue mode (s.withEngine budget consumed reports overrides) = modeValue mode s := by
  match mode with
  | .implied | .accumulator | .relative _ | .source (.immediate _) => rfl
  | .source (.memory m) =>
    simp only [modeValue, operand, resolve_withEngine]
    rfl

theorem modeAddress_withEngine (mode : AddrMode) :
    modeAddress mode (s.withEngine budget consumed reports overrides) = modeAddress mode s := by
  match mode with
  | .implied | .accumulator | .relative _ | .source (.immediate _) => rfl
  | .source (.memory m) => simp only [modeAddress, resolve_withEngine]

theorem operandCrossed_withEngine (src : Source) :
    operandCrossed (s.withEngine budget consumed reports overrides) src = operandCrossed s src := by
  match src with
  | .immediate _ => rfl
  | .memory m => simp only [operandCrossed, resolve_withEngine]

theorem execEffect_withEngine (i : Instr) :
    execEffect i (s.withEngine budget consumed reports overrides) =
      (execEffect i s).withEngine budget consumed reports overrides := by
  rw [execEffect, modeValue_withEngine, modeAddress_withEngine, act_withEngine, execEffect]

/-- With the cycle table kept the penalty is the same (70_reset_and_hazards.md R204). -/
theorem execPenalty_withEngine (i : Instr) :
    execPenalty i (s.withEngine budget consumed reports s.config.cycleOverrides) = execPenalty i s := by
  simp only [execPenalty, operandCrossed_withEngine]
  rfl

end

/-- An instruction that gives a state gives the same one, but for the replaced fields, from a state that differs in them; with the
cycle table kept it costs the same. -/
theorem exec_withEngine {i : Instr} {s t : State} (h : exec i s = .next t) (budget consumed : Nat)
    (reports : List DecodeFailure) (overrides : List CycleRow) :
    ∃ cost,
      exec i (s.withEngine budget consumed reports overrides) =
        .next (t.withEngine budget (consumed + cost) reports overrides) ∧
      (overrides = s.config.cycleOverrides → t.consumed = s.consumed + cost) := by
  let u := s.withEngine budget consumed reports overrides
  have hs : execRefuses i s = false := execRefuses_of_next h
  have hu : execRefuses i u = false := hs
  have hadvance : u.advance i.length = (s.advance i.length).withEngine budget consumed reports overrides := rfl
  refine ⟨baseCost u.config i.opcode + execPenalty i u, ?next, ?cost⟩
  case next =>
    rw [exec_of_not_refused hu, exec_next_eq h, hadvance, execEffect_withEngine]
    rfl
  case cost =>
    rintro rfl
    rw [exec_consumed h, execPenalty_withEngine, Nat.add_assoc]
    rfl

/-! ### The step -/

/-- A step that gives a state gives the same one, but for the replaced fields, from a state that differs in them, and adds the same
reports; with the cycle table kept it costs the same. -/
theorem step_withEngine {s t : State} (h : step s = .next t) (budget consumed : Nat) (reports : List DecodeFailure)
    (overrides : List CycleRow) :
    ∃ cost events,
      step (s.withEngine budget consumed reports overrides) =
        .next (t.withEngine budget (consumed + cost) (reports ++ events) overrides) ∧
      t.reports = s.reports ++ events ∧
      (overrides = s.config.cycleOverrides → t.consumed = s.consumed + cost) := by
  obtain ⟨hlatch, ⟨hnone, rfl⟩ | ⟨i, hi, hexec⟩⟩ := step_next_cases h
  · exact ⟨1, [⟨s.byteAt s.pc, s.pc⟩], step_of_noHandler (s := s.withEngine budget consumed reports overrides) hlatch hnone,
      rfl, fun _ => rfl⟩
  · obtain ⟨cost, hnext, hcost⟩ := exec_withEngine hexec budget consumed reports overrides
    obtain ⟨-, -, hreports, -⟩ := exec_engine hexec
    have hstep := step_of_fetched (s := s.withEngine budget consumed reports overrides) hlatch hi
    refine ⟨cost, [], ?_, by rw [hreports, List.append_nil], hcost⟩
    rw [hstep, hnext, List.append_nil]

/-- A step faults whatever the call's own fields and the cycle table are. -/
theorem step_withEngine_fault {s : State} {r : Fault} (h : step s = .fault r) (budget consumed : Nat)
    (reports : List DecodeFailure) (overrides : List CycleRow) :
    step (s.withEngine budget consumed reports overrides) = .fault r :=
  (step_fault_iff (s.withEngine budget consumed reports overrides) r).2 ((step_fault_iff s r).1 h)

/-- A step is refused whatever the call's own fields and the cycle table are. -/
theorem step_withEngine_refused {s : State} {r : Refusal} (h : step s = .refused r) (budget consumed : Nat)
    (reports : List DecodeFailure) (overrides : List CycleRow) :
    step (s.withEngine budget consumed reports overrides) = .refused r :=
  (step_refused_iff (s.withEngine budget consumed reports overrides) r).2 ((step_refused_iff s r).1 h)

end Sys2Proof.Machine

open Sys2Proof Sys2Proof.Machine

/-- Settles O15: a change of the call's own fields keeps the cycle table, so the step costs the same. -/
theorem stepNeverReadsCallState : Obligations.StepNeverReadsCallState := by
  intro s budget consumed reports
  refine ⟨fun t h => ?next, fun r h => ?fault, fun r h => ?refused⟩
  case next =>
    obtain ⟨cost, events, hstep, hreports, hcost⟩ := step_withEngine h budget consumed reports s.config.cycleOverrides
    obtain ⟨hconfig, -⟩ := step_config_budget h
    refine ⟨cost, events, hcost rfl, hreports, ?_⟩
    calc step (s.withCall budget consumed reports)
      _ = .next (t.withEngine budget (consumed + cost) (reports ++ events) s.config.cycleOverrides) := hstep
      _ = .next (t.withCall budget (consumed + cost) (reports ++ events)) := by rw [← hconfig]; rfl
  case fault => exact step_withEngine_fault h budget consumed reports s.config.cycleOverrides
  case refused => exact step_withEngine_refused h budget consumed reports s.config.cycleOverrides

/-- Settles O16: the step reads no cycle table, and neither the budget nor the reports depend on what it costs. -/
theorem stepNeverDependsOnCycleTable : Obligations.StepNeverDependsOnCycleTable := by
  intro s overrides
  refine ⟨fun t h => ?next, fun r h => ?fault, fun r h => ?refused⟩
  case next =>
    obtain ⟨cost, events, hstep, hreports, -⟩ := step_withEngine h s.budget s.consumed s.reports overrides
    obtain ⟨-, hbudget⟩ := step_config_budget h
    refine ⟨s.consumed + cost, ?_⟩
    calc step (s.withCycles overrides s.consumed)
      _ = .next (t.withEngine s.budget (s.consumed + cost) (s.reports ++ events) overrides) := hstep
      _ = .next (t.withCycles overrides (s.consumed + cost)) := by rw [← hreports, ← hbudget]; rfl
  case fault => exact step_withEngine_fault h s.budget s.consumed s.reports overrides
  case refused => exact step_withEngine_refused h s.budget s.consumed s.reports overrides

end

section
/-! PROOF. The execute loop: when it stops, the last step it ran, and a call as a part of a longer one
(70_reset_and_hazards.md R207 to R209). -/

namespace Sys2Proof.Machine

/-! ### The turns of the loop -/

theorem State.running_iff (s : State) : s.running = true ↔ s.consumed < s.budget := decide_eq_true_iff

theorem State.not_running_iff (s : State) : s.running = false ↔ s.budget ≤ s.consumed := by
  rw [← Bool.not_eq_true, State.running_iff, Nat.not_lt]

/-- With the budget used up the loop runs no step (70_reset_and_hazards.md R207). -/
theorem callLoop_of_not_running {s : State} (turns : Nat) (h : s.running = false) : callLoop turns s = (.ok, s) := by
  cases turns with
  | zero => rfl
  | succ n => simp [callLoop, h]

/-- A turn of the loop, however many are left: it stops by the budget or the latch, it stops refused, or it takes a step. -/
theorem callLoop_turn (s : State) :
    ((s.running = false ∨ s.latched = true) ∧ ∀ turns, callLoop turns s = (.ok, s)) ∨
      s.running = true ∧
        ((∃ r, step s = .refused r ∧ ∀ turns, callLoop (turns + 1) s = (.refused r, s)) ∨
          ∃ t, step s = .next t ∧ ∀ turns, callLoop (turns + 1) s = callLoop turns t) := by
  cases hrun : s.running with
  | false => exact .inl ⟨.inl rfl, fun turns => callLoop_of_not_running turns hrun⟩
  | true =>
    cases hstep : step s with
    | next t => exact .inr ⟨rfl, .inr ⟨t, rfl, fun turns => callLoop_of_next turns hrun hstep⟩⟩
    | fault r =>
      obtain ⟨hlatch, -⟩ := (step_fault_iff s r).1 hstep
      exact .inl ⟨.inr hlatch, fun turns => callLoop_of_latched turns hlatch⟩
    | refused r => exact .inr ⟨rfl, .inl ⟨r, rfl, fun turns => callLoop_of_refused turns hrun hstep⟩⟩

/-- With a turn for each cycle of budget left, a loop that ends ok and not latched has used its budget
(70_reset_and_hazards.md R208). -/
theorem budget_le_callLoop_consumed {turns : Nat} {s : State} (hturns : s.budget ≤ s.consumed + turns)
    (hok : (callLoop turns s).1 = .ok) (hlatch : (callLoop turns s).2.latched = false) :
    s.budget ≤ (callLoop turns s).2.consumed := by
  induction turns generalizing s with
  | zero => exact hturns
  | succ n ih =>
    obtain ⟨hstop, hloop⟩ | ⟨-, ⟨r, -, hloop⟩ | ⟨t, hstep, hloop⟩⟩ := callLoop_turn s
    · rw [hloop] at hlatch ⊢
      exact s.not_running_iff.1 (hstop.resolve_right (by simp [hlatch]))
    · rw [hloop] at hok
      cases hok
    · obtain ⟨-, hbudget⟩ := step_config_budget hstep
      have hcost := lt_step_consumed hstep
      rw [hloop] at hok hlatch ⊢
      rw [← hbudget]
      exact ih (by omega) hok hlatch

/-- A state reached after a first step. -/
theorem Reaches.head {s t u : State} (hstep : step s = .next t) (h : Reaches t u) : Reaches s u := by
  obtain ⟨n, hn⟩ := h
  exact ⟨n + 1, (run_succ n hstep).trans hn⟩

/-- A loop that ran a step reached its last one by steps from its start, and began it with budget left
(70_reset_and_hazards.md R208). -/
theorem callLoop_last (turns : Nat) (s : State) :
    (callLoop turns s).2 = s ∨
      ∃ last, Reaches s last ∧ step last = .next (callLoop turns s).2 ∧ last.consumed < s.budget ∧
        last.config = s.config := by
  induction turns generalizing s with
  | zero => exact .inl rfl
  | succ n ih =>
    obtain ⟨-, hloop⟩ | ⟨hrun, ⟨r, -, hloop⟩ | ⟨t, hstep, hloop⟩⟩ := callLoop_turn s
    · rw [hloop]
      exact .inl rfl
    · rw [hloop]
      exact .inl rfl
    · obtain ⟨hconfig, hbudget⟩ := step_config_budget hstep
      rw [hloop]
      obtain hend | ⟨last, hreach, hlast, hleft, hlastConfig⟩ := ih t
      · rw [hend]
        exact .inr ⟨s, Reaches.refl s, hstep, s.running_iff.1 hrun, rfl⟩
      · exact .inr ⟨last, hreach.head hstep, hlast, hbudget ▸ hleft, hlastConfig.trans hconfig⟩

/-! ### Turns enough -/

/-- The loop with a turn for each cycle of budget left, which is all that it can use (`callLoop_eq_runOut`). -/
def runOut (s : State) : CallOutcome × State := callLoop (s.budget - s.consumed) s

/-- Turns beyond the budget left do not matter: every step costs at least one cycle (70_reset_and_hazards.md R202). -/
theorem callLoop_add {turns : Nat} {s : State} (h : s.budget ≤ s.consumed + turns) (extra : Nat) :
    callLoop (turns + extra) s = callLoop turns s := by
  induction turns generalizing s with
  | zero =>
    have hstop : s.running = false := s.not_running_iff.2 h
    rw [callLoop_of_not_running _ hstop, callLoop_of_not_running _ hstop]
  | succ n ih =>
    rw [Nat.add_right_comm]
    obtain ⟨-, hloop⟩ | ⟨-, ⟨r, -, hloop⟩ | ⟨t, hstep, hloop⟩⟩ := callLoop_turn s
    · rw [hloop, hloop]
    · rw [hloop, hloop]
    · obtain ⟨-, hbudget⟩ := step_config_budget hstep
      have hcost := lt_step_consumed hstep
      rw [hloop, hloop]
      exact ih (by omega)

theorem callLoop_eq_runOut {turns : Nat} {s : State} (h : s.budget ≤ s.consumed + turns) : callLoop turns s = runOut s := by
  obtain ⟨extra, rfl⟩ := Nat.exists_eq_add_of_le (show s.budget - s.consumed ≤ turns by omega)
  exact callLoop_add (by omega) extra

/-- A step of a running machine is the first of the loop. -/
theorem runOut_of_next {s t : State} (hrun : s.running = true) (hstep : step s = .next t) : runOut s = runOut t := by
  obtain ⟨-, hbudget⟩ := step_config_budget hstep
  have hcost := lt_step_consumed hstep
  have hleft := s.running_iff.1 hrun
  obtain ⟨n, hn⟩ := Nat.exists_eq_add_one.2 (Nat.sub_pos_of_lt hleft)
  rw [runOut, hn, callLoop_of_next n hrun hstep]
  exact callLoop_eq_runOut (by omega)

/-! ### A call as a part of a longer one -/

/-- The state as it stands in a call with this budget that had consumed `before` cycles and made `reports` already. -/
def State.inCall (s : State) (budget before : Nat) (reports : List DecodeFailure) : State :=
  s.withCall budget (before + s.consumed) (reports ++ s.reports)

/-- A step is the same in a longer call (10_state.md R43). -/
theorem step_inCall {s t : State} (h : step s = .next t) (budget before : Nat) (reports : List DecodeFailure) :
    step (s.inCall budget before reports) = .next (t.inCall budget before reports) := by
  obtain ⟨hnext, -, -⟩ := stepNeverReadsCallState s budget (before + s.consumed) (reports ++ s.reports)
  obtain ⟨cost, events, hcost, hreports, hstep⟩ := hnext t h
  rw [State.inCall, hstep, State.inCall, hcost, hreports, List.append_assoc, Nat.add_assoc]

theorem step_inCall_refused {s : State} {r : Refusal} (h : step s = .refused r) (budget before : Nat)
    (reports : List DecodeFailure) : step (s.inCall budget before reports) = .refused r := by
  obtain ⟨-, -, hrefused⟩ := stepNeverReadsCallState s budget (before + s.consumed) (reports ++ s.reports)
  exact hrefused r h

/-- With a larger budget the loop runs on from where it ended ok (70_reset_and_hazards.md R209). -/
theorem runOut_of_callLoop_ok {turns budget : Nat} {s u : State} (h : callLoop turns s = (.ok, u))
    (hbudget : s.budget ≤ budget) :
    runOut (s.inCall budget 0 []) = runOut (u.inCall budget 0 []) := by
  induction turns generalizing s with
  | zero => cases h; rfl
  | succ n ih =>
    obtain ⟨-, hloop⟩ | ⟨hrun, ⟨r, -, hloop⟩ | ⟨t, hstep, hloop⟩⟩ := callLoop_turn s
    · cases (hloop _).symm.trans h
      rfl
    · cases (hloop _).symm.trans h
    · obtain ⟨-, hkept⟩ := step_config_budget hstep
      have hleft := s.running_iff.1 hrun
      have hrunOn : (s.inCall budget 0 []).running = true := (State.running_iff _).2 (show 0 + s.consumed < budget by omega)
      rw [runOut_of_next hrunOn (step_inCall hstep budget 0 [])]
      exact ih ((hloop n).symm.trans h) (hkept ▸ hbudget)

/-- A loop runs alike in a call that had consumed some cycles before and has as many more to consume
(70_reset_and_hazards.md R209). -/
theorem callLoop_inCall (turns before : Nat) (reports : List DecodeFailure) (s : State) :
    callLoop turns (s.inCall (before + s.budget) before reports) =
      ((callLoop turns s).1, (callLoop turns s).2.inCall (before + s.budget) before reports) := by
  have hrunning (s : State) : (s.inCall (before + s.budget) before reports).running = s.running := by
    simp [State.running, State.inCall, State.withCall]
  induction turns generalizing s with
  | zero => rfl
  | succ n ih =>
    obtain ⟨hstop, hloop⟩ | ⟨hrun, ⟨r, hstep, hloop⟩ | ⟨t, hstep, hloop⟩⟩ := callLoop_turn s
    · rw [hloop]
      obtain hstop | hlatch := hstop
      · exact callLoop_of_not_running _ ((hrunning s).trans hstop)
      · exact callLoop_of_latched _ hlatch
    · rw [hloop]
      exact callLoop_of_refused n ((hrunning s).trans hrun) (step_inCall_refused hstep _ _ _)
    · obtain ⟨-, hbudget⟩ := step_config_budget hstep
      rw [hloop, callLoop_of_next n ((hrunning s).trans hrun) (step_inCall hstep _ _ _), ← hbudget]
      exact ih t

/-- When a call ends ok with its budget exactly used, the call with the summed budget ends as the second call does, the first
call's cycles and reports before (70_reset_and_hazards.md R209). -/
theorem callLoop_split {s u : State} {b1 : Nat} (hu : callLoop b1 (s.beginCall b1) = (.ok, u)) (hused : u.consumed = b1)
    (b2 : Nat) :
    callLoop (b1 + b2) (s.beginCall (b1 + b2)) =
      ((callLoop b2 (u.endCall.beginCall b2)).1,
        (callLoop b2 (u.endCall.beginCall b2)).2.inCall (b1 + b2) b1 u.reports) := by
  have hresume : u.inCall (b1 + b2) 0 [] = (u.endCall.beginCall b2).inCall (b1 + b2) b1 u.reports := by
    simp [State.inCall, State.withCall, State.endCall, State.beginCall, hused]
  calc callLoop (b1 + b2) (s.beginCall (b1 + b2))
    _ = runOut ((s.beginCall b1).inCall (b1 + b2) 0 []) := callLoop_eq_runOut (Nat.le_add_left _ _)
    _ = runOut (u.inCall (b1 + b2) 0 []) := runOut_of_callLoop_ok hu (Nat.le_add_right b1 b2)
    _ = runOut ((u.endCall.beginCall b2).inCall (b1 + b2) b1 u.reports) := by rw [hresume]
    _ = callLoop b2 ((u.endCall.beginCall b2).inCall (b1 + b2) b1 u.reports) := (callLoop_eq_runOut (Nat.le_refl _)).symm
    _ = _ := callLoop_inCall b2 b1 u.reports (u.endCall.beginCall b2)

end Sys2Proof.Machine

open Sys2Proof Sys2Proof.Machine

/-- Settles O57: the loop's last step began with budget left and costs at most 7 by the default table. -/
theorem executeBounds : Obligations.ExecuteBounds := by
  intro s
  refine ⟨rfl, fun budget => ?_, rfl⟩
  intro r
  have hturns : (s.beginCall budget).budget ≤ (s.beginCall budget).consumed + budget := Nat.le_add_left budget 0
  have hlast := callLoop_last budget (s.beginCall budget)
  refine ⟨fun hok hlatch => budget_le_callLoop_consumed hturns hok hlatch, ?last, fun hdefault => ?overshoot⟩
  case last =>
    obtain hnone | ⟨last, hreach, hstep, hleft, -⟩ := hlast
    · exact .inl (congrArg State.consumed hnone)
    · exact .inr ⟨last, _, hreach, hstep, rfl, rfl, hleft⟩
  case overshoot =>
    obtain hnone | ⟨last, -, hstep, hleft, hconfig⟩ := hlast
    · have hzero : r.consumed = 0 := congrArg State.consumed hnone
      omega
    · have hcost : r.consumed ≤ last.consumed + 7 := step_consumed_le hstep (by rw [hconfig]; exact hdefault)
      have hleft : last.consumed < budget := hleft
      omega

/-- Settles O58: the first step is run, for the budget is not 0, and it uses the budget up. -/
theorem executeRunsOneStep : Obligations.ExecuteRunsOneStep := by
  intro s t budget hpos hstep hused
  obtain ⟨-, hbudget⟩ := step_config_budget hstep
  have hstop : t.running = false := t.not_running_iff.2 (hbudget.trans_le hused)
  obtain ⟨n, rfl⟩ := Nat.exists_eq_add_one.2 hpos
  refine execute_of_callLoop ?_
  rw [callLoop_of_next n (s.beginCall_running hpos) hstep, callLoop_of_not_running n hstop]

/-- Settles O59: with the summed budget the loop runs on where the first call ended, and from there as the second call does. -/
theorem executeSplits : Obligations.ExecuteSplits := by
  intro s b1 b2 hok hused
  obtain ⟨u, hu⟩ : ∃ u, callLoop b1 (s.beginCall b1) = (.ok, u) := ⟨_, Prod.ext hok rfl⟩
  rw [execute_of_callLoop hu] at hused ⊢
  exact execute_of_callLoop (callLoop_split hu hused b2)

end
